-- ==== Sys2Proof/Word.lean ====
section
/-!
DEFINITION. The words of the stage link and the numbers of the ports, lines and triggers.
-/

namespace Sys2Proof

/-- One word of a frame or of a loadable record: 16 data bits (12, opening paragraph). -/
abbrev Word := BitVec 16

/-- Eight bits of a word: a tag, a request kind, a notice mask. -/
abbrev Byte := BitVec 8

/-- A link port, L0 to L11 (00 section 4). -/
abbrev Port := Fin 12

/-- A pedal trigger, 0 to 7, or a pedal line, P0 to P7 (00 section 4). -/
abbrev Trigger := Fin 8

end Sys2Proof
end

