-- ==== Sys2Proof/Syntax.lean ====
section
/-!
DEFINITION. The commands of the part: one constructor for each row of spec/opcode_table.json.

Operands. `p` is the port the event concerns. Frames carry the fields their layout names (12.2, R7). A console request
carries its tag and, where its layout has words from 2 on, those payload words as received (`args`, 12.3), so that a
payload that is too short can be said. `wait` is the number of microseconds that pass between the command before and
this one, for the frames whose rules read the time of the frame (DESIGN CHOICE, safe: log 3).
-/

namespace Sys2Proof

inductive Instr where
  -- reset and start-up (R191)
  | deviceReset (powerOn : Bool)
  | storeLoad
  -- the floor pedals (R127): the raw levels of P0 (bit 0) to P7 (bit 7), set for HIGH
  | pedalSample (levels : BitVec 8)
  -- carrier and link timers (R164 to R169)
  | carrierPresent (p : Port)
  | carrierLost (p : Port)
  | faultHoldExpiry (p : Port)
  | identTimerExpiry (p : Port)
  | refusalTimerExpiry (p : Port)
  -- frames received
  | ident (wait : Nat) (p : Port) (offered : BitVec 3)
  | frameFault (wait : Nat) (p : Port)
  | unexpectedFrame (p : Port)
  | keyDown (p : Port) (key : BitVec 7) (strike : BitVec 10)
  | keyUp (p : Port) (key : BitVec 7) (strike : BitVec 10)
  | pressure (p : Port) (key : BitVec 7) (value : BitVec 10)
  | control (p : Port) (controller : BitVec 8) (value : BitVec 10)
  | sustain (p : Port) (value : BitVec 10)
  | presenceReady (wait : Nat) (p : Port)
  | presenceSettling (wait : Nat) (p : Port)
  | presenceFault (wait : Nat) (p : Port)
  | sourceClock (wait : Nat) (p : Port)
  | transportStartFrame (p : Port)
  | transportStopFrame (p : Port)
  | positionFrame (p : Port) (bar : BitVec 14) (beat : BitVec 4)
  -- the transmitter (R172)
  | emissionChoice (p : Port)
  -- time (R94, R111, R122, R64, R139, R147, R150, R154)
  | accumulatorTick
  | sourceTimerExpiry
  | cueTimerExpiry
  | settleTimerExpiry (p : Port)
  | presenceTimerExpiry (p : Port)
  | commandedTimerExpiry (p : Port)
  | cooldownTimerExpiry (p : Port)
  | steadyTimerExpiry (p : Port)
  -- the store (R189, R190) and the drain (R48)
  | commitCompareEnd
  | commitEnd (readBackEqual : Bool)
  | drainEnd
  -- console requests (R179, R180)
  | claim (p : Port) (tag : Byte) (args : List Word)
  | release (p : Port) (tag : Byte)
  | loadBegin (p : Port) (tag : Byte) (args : List Word)
  | loadData (p : Port) (tag : Byte) (args : List Word)
  | loadRun (p : Port) (tag : Byte) (args : List Word)
  | read (p : Port) (tag : Byte) (args : List Word)
  | readNotes (p : Port) (tag : Byte) (args : List Word)
  | readBlackBox (p : Port) (tag : Byte)
  | status (p : Port) (tag : Byte)
  | portStatus (p : Port) (tag : Byte) (args : List Word)
  | commit (p : Port) (tag : Byte)
  | select (p : Port) (tag : Byte) (args : List Word)
  | transportStart (p : Port) (tag : Byte)
  | transportStop (p : Port) (tag : Byte)
  | transportToStart (p : Port) (tag : Byte)
  | tempoSet (p : Port) (tag : Byte) (args : List Word)
  | tempoClear (p : Port) (tag : Byte)
  | takeOut (p : Port) (tag : Byte) (args : List Word)
  | returnModule (p : Port) (tag : Byte) (args : List Word)
  | clearFlags (p : Port) (tag : Byte)
  | clearPeaks (p : Port) (tag : Byte)
  | clearBlackBox (p : Port) (tag : Byte)
  | clearModule (p : Port) (tag : Byte) (target : BitVec 4)
  | clearCounts (p : Port) (tag : Byte) (target : BitVec 4)
  | noticeMask (p : Port) (tag : Byte) (args : List Word)
  | panic (p : Port) (tag : Byte)
  | restart (p : Port) (tag : Byte)
  | unknownRequest (p : Port) (kind : Byte) (tag : Byte)
  deriving DecidableEq, Repr

end Sys2Proof
end

