-- ==== Sys2Proof/Decode.lean ====
section
/-!
DEFINITION. decodeTableWord: the command that a word spells by the bits of spec/opcode_table.json. The table gives none
of its 63 rows any bits (every row has an empty list of fields), so no word spells a command. The words of frames
(chapter 12) are read in Sys2Proof/Machine/Frames.lean.
-/

namespace Sys2Proof

/-- No row of the table gives bits: every word is refused. -/
def decodeTableWord (_nbits _w : Nat) : Option Instr := none

end Sys2Proof
end

