-- ==== Sys2Proof/Config.lean ====
section
/-!
DEFINITION. What the part fixes: the numbers that recur in the manual (00 section 6), and the free values.
-/

namespace Sys2Proof.Config

/-- Frames an output queue holds (R171). -/
def queueDepth : Nat := 32
/-- Entries the note table holds (R22). -/
def tableSize : Nat := 256
/-- DEFERRED entries a module may hold (R32). -/
def deferLimit : Nat := 16
/-- The lowest and the highest tempo, in centi-BPM (00 section 4). -/
def tempoLow : Nat := 3000
def tempoHigh : Nat := 30000
/-- One microsecond in the units of the phase accumulator (R94). -/
def accUnit : Nat := 65536
/-- The tempo at device reset (R112) and in the default song record (R192). -/
def resetTempo : Nat := 12000
/-- Microseconds in one millisecond of rig time. -/
def msec : Nat := 1000
/-- IDENT period and fault hold, 200 ms (R166, R169); refusal time, 2,000 ms (R166); fault burst, 1,000 ms (R169). -/
def identPeriod : Nat := 200 * msec
def faultHold : Nat := 200 * msec
def refusalTime : Nat := 2000 * msec
def burstTime : Nat := 1000 * msec
/-- One word on the link takes 10 µs (R164). -/
def wordTime : Nat := 10
/-- A silence of 50 µs loses carrier (R164). -/
def carrierTime : Nat := 50
/-- Family code and revision of the part's IDENT (12.2). -/
def familyCode : Nat := 1846
def revision : Nat := 1

/-- How many beat starts one event can nest: each level past the first is a song entry made by a NEXT SONG cue at bar 1,
beat 1 of the song just entered, and those positions rise strictly, so 64 positions give at most 67 levels.
DEDUCED (log 11). -/
def beatDepth : Nat := 80

/-- A value the manual does not state: nothing can be proved of it. The n-th use of a run reads `freeValue n`, with n
the counter `free` of the state (log 8). -/
opaque freeValue : Nat → Nat

end Sys2Proof.Config
end

