-- ==== Sys2Proof/Machine/Types.lean ====
section
/-!
DEFINITION. The records and codes of the part: the data types that State is made of, in the manual's names.
-/

namespace Sys2Proof.Machine

/-- One value for each link port, L0 first. -/
abbrev PerPort (α : Type) := Vector α 12

/-- Song numbers 0 to 63 and scene numbers 0 to 7 (00 section 4). -/
abbrev SongNo := Fin 64
abbrev SceneNo := Fin 8

/-! ### The port table (R162) -/

/-- The six roles of R162, in the order of their codes (12.6). MODULE is written `modulePort`. -/
inductive Role where
  | off | controller | modulePort | band | console | timing
  deriving DecidableEq, Repr

/-- Clock divisor of a MODULE port (R114). -/
inductive Divisor where
  | off | d1 | d2 | d4 | d8
  deriving DecidableEq, Repr

/-- Return policy (R137, R151). -/
inductive ReturnPolicy where
  | immediate | nextScene | nextSong
  deriving DecidableEq, Repr

/-- The fields of a MODULE port record (R162): R23, R61, R114, R137. The backup field is held as loaded: the four port
bits and the bit for none (12.6). -/
structure ModuleFields where
  voiceBudget : Nat
  settleLimit : Nat
  divisor : Divisor
  restrikeHeld : Bool
  returnPolicy : ReturnPolicy
  recoveryCount : Nat
  flapLimit : Nat
  presenceTimeout : Nat
  backupPort : Nat
  backupNone : Bool
  cooldown : Nat
  steadyPeriod : Nat
  deriving DecidableEq, Repr

/-- The defaults R23, R61, R114 and R137 give the fields of a MODULE record. -/
def ModuleFields.default : ModuleFields :=
  { voiceBudget := 64, settleLimit := 400, divisor := .off, restrikeHeld := false, returnPolicy := .nextScene,
    recoveryCount := 3, flapLimit := 3, presenceTimeout := 500, backupPort := 0, backupNone := true, cooldown := 2000,
    steadyPeriod := 120 }

/-- The fields of a BAND port record (R114). -/
structure BandFields where
  subdivision : Nat
  warn : Bool
  mute : Bool
  deriving DecidableEq, Repr

/-- A port record: a role with the fields of that role alone (R162). -/
inductive PortRecord where
  | off
  | controller
  | modulePort (m : ModuleFields)
  | band (b : BandFields)
  | console (priority : Bool)
  | timing (window : Nat)
  deriving DecidableEq, Repr

/-- The role a record names. -/
def PortRecord.role : PortRecord → Role
  | .off => .off
  | .controller => .controller
  | .modulePort _ => .modulePort
  | .band _ => .band
  | .console _ => .console
  | .timing _ => .timing

/-! ### Curves, pedals, setlist, songs, scenes -/

/-- A strike curve: its points y0 to y8 (R4). -/
abbrev Curve := Vector Nat 9

/-- Actions of a pedal trigger (R128), in the order of their codes (12.6). -/
inductive TriggerAction where
  | nextSong | prevSong | nextScene | prevScene | songAt | sceneAt | startStop | tap | cueStop | panic | sustain
  | clickMute
  deriving DecidableEq, Repr

/-- A trigger record (R128). `boundary` is the code as loaded: it is checked for change actions only. -/
structure TriggerRecord where
  mask : BitVec 8
  pattern : BitVec 8
  action : TriggerAction
  boundary : Nat
  priority : Nat
  parameter : Nat
  bar : Nat
  deriving DecidableEq, Repr

/-- The pedal table (R128). -/
structure PedalTable where
  triggers : Vector TriggerRecord 8
  debounce : Vector Nat 8
  tapCount : Nat
  deriving DecidableEq, Repr

/-- The setlist record (R71): its count and its 64 places. -/
structure SetlistRecord where
  count : Nat
  places : List SongNo
  deriving DecidableEq, Repr

/-- The song numbers in use, in set order. -/
def SetlistRecord.songs (r : SetlistRecord) : List SongNo := r.places.take r.count

/-- Start modes of a song (R72). -/
inductive StartMode where
  | manual | countIn | continue_
  deriving DecidableEq, Repr

/-- A tempo-map place (R72). -/
structure TempoEntry where
  bar : Nat
  tempo : Nat
  numerator : Nat
  denominator : Nat
  deriving DecidableEq, Repr

/-- A cue-list place (R72): the action code and its argument and width as stored. -/
structure CueEntry where
  bar : Nat
  beat : Nat
  action : Nat
  argument : Nat
  width : Nat
  deriving DecidableEq, Repr

/-- A song record (R72), with its 16 tempo-map places and 16 cue places. -/
structure SongRecord where
  name : List Byte
  sceneCount : Nat
  firstScene : Nat
  startMode : StartMode
  countInBars : Nat
  follow : Bool
  cuePriority : Nat
  tempoCount : Nat
  cueCount : Nat
  tempoPlaces : List TempoEntry
  cuePlaces : List CueEntry
  deriving DecidableEq, Repr

/-- The tempo map and the cue list: the places in use. -/
def SongRecord.tempoMap (r : SongRecord) : List TempoEntry := r.tempoPlaces.take r.tempoCount
def SongRecord.cueList (r : SongRecord) : List CueEntry := r.cuePlaces.take r.cueCount

/-- Control filter modes (R18). `reserved` is the fourth code of the field, which only a place out of use can hold (R3). -/
inductive FilterMode where
  | all | none_ | list | reserved
  deriving DecidableEq, Repr

/-- A zone record (R1). Places out of use hold what was loaded, so the fields have the ranges of the layout (12.6). -/
structure ZoneRecord where
  sources : BitVec 12
  keyLow : Nat
  keyHigh : Nat
  strikeLow : Nat
  strikeHigh : Nat
  transpose : Int
  fold : Bool
  curve : Nat
  gain : Nat
  offset : Int
  port : Nat
  slot : Nat
  sustainFollow : Bool
  pressurePass : Bool
  filterMode : FilterMode
  listCount : Nat
  list0 : Nat
  list1 : Nat
  list2 : Nat
  list3 : Nat
  deriving DecidableEq, Repr

/-- A preset entry (R59). -/
structure PresetEntry where
  port : Nat
  slot : Nat
  bank : Nat
  preset : Nat
  deriving DecidableEq, Repr

/-- A scene record: 16 zone places and 16 preset places with their counts (R1, R59). -/
structure SceneRecord where
  zoneCount : Nat
  presetCount : Nat
  zonePlaces : List ZoneRecord
  presetPlaces : List PresetEntry
  deriving DecidableEq, Repr

/-- The zone list and the preset list: the places in use. -/
def SceneRecord.zones (r : SceneRecord) : List ZoneRecord := r.zonePlaces.take r.zoneCount
def SceneRecord.presets (r : SceneRecord) : List PresetEntry := r.presetPlaces.take r.presetCount

/-- Table memory: the six tables (R183). -/
structure Tables where
  ports : PerPort PortRecord
  curves : Vector Curve 8
  pedal : PedalTable
  setlist : SetlistRecord
  songs : Vector SongRecord 64
  scenes : Vector SceneRecord 512
  deriving DecidableEq, Repr

/-- The tables by their codes (12.3). -/
inductive TableId where
  | port | curve | pedal | setlist | song | scene
  deriving DecidableEq, Repr

/-- A record of any table. -/
inductive Record where
  | port (r : PortRecord)
  | curve (r : Curve)
  | pedal (r : PedalTable)
  | setlist (r : SetlistRecord)
  | song (r : SongRecord)
  | scene (r : SceneRecord)
  deriving DecidableEq, Repr

/-! ### Frames (12.2) -/

/-- Click accents (R116 to R119), in the order of their codes. -/
inductive Accent where
  | downbeat | beat | sub | count | warn
  deriving DecidableEq, Repr

/-- Result codes (R179), in the order of 12.3. -/
inductive Result where
  | done | takenIn | noChange | busy | notOwner | claimedElsewhere | badTable | badIndex | badOrder | badValue
  | lowerPriority | notExpected | tooLong | stored | unchanged | verifyFailed
  deriving DecidableEq, Repr

/-- Notice kinds (R195), in the order of 12.4. -/
inductive NoticeKind where
  | sceneEntered | changeSuperseded | changeRefused | transport | module_ | clockSource | flagRaised | claim
  deriving DecidableEq, Repr

/-- The frames the part sends (12.2). -/
inductive Frame where
  | ident (offered : Nat)
  | keyDown (slot key strike : Nat)
  | keyUp (slot key strike : Nat)
  | pressure (slot key value : Nat)
  | control (slot controller value : Nat)
  | preset (slot bank preset : Nat)
  | clock
  | transport (start : Bool)
  | click (accent : Accent) (bar beat : Nat)
  | cue (start : Bool) (number : Nat)
  | reply (kind tag : Nat) (result : Result) (data : List Word)
  | notice (kind : NoticeKind) (data : List Word)
  deriving DecidableEq, Repr

/-- A place of an output queue: the frame, and for a KEY DOWN the name of its note-table entry (R24; the name is the
model's own, log 14). -/
structure QueueItem where
  frame : Frame
  entry : Option Nat
  deriving DecidableEq, Repr

/-! ### LINK -/

/-- Link phases (R165). -/
inductive Phase where
  | off | down | ident | up | refused
  deriving DecidableEq, Repr

/-- What LINK holds for one port (chapter 9). Timers are the rig time, in µs, at which they run out. -/
structure LinkPort where
  phase : Phase
  carrier : Bool
  queue : List QueueItem
  burst : Nat
  faults : List Nat
  frameFaults : Nat
  losses : Nat
  unexpected : Nat
  identTimer : Option Nat
  refusalTimer : Option Nat
  faultHold : Option Nat
  lastIdent : Option Nat
  identWaiting : Bool
  sending : Option Frame
  freeAt : Nat
  deriving DecidableEq, Repr

/-! ### NOTES -/

/-- Release causes (R21), in the order of 12.3. -/
inductive Cause where
  | keyUp | sustainLift | retrigger | collision | stolen | forced | panic | sourceLost | moduleOut | budgetCut | restart
  deriving DecidableEq, Repr

/-- Entry states (R21): release strike and cause are present only in RELEASE OWED. -/
inductive EntryState where
  | deferred | sounding | sustained
  | owed (cause : Cause) (strike : Nat)
  deriving DecidableEq, Repr

/-- A note-table entry (R21). `name` is the model's own (log 14). -/
structure Entry where
  name : Nat
  srcPort : Port
  srcKey : Nat
  gen : Nat
  zone : Nat
  dest : Port
  slot : Nat
  key : Nat
  strike : Nat
  state : EntryState
  pending : Bool
  deriving DecidableEq, Repr

/-- A pedal SUSTAIN hold as NOTES records it (R34): the port it names, and whether it is disregarded (R36). -/
structure SustainHold where
  port : Port
  disregarded : Bool
  deriving DecidableEq, Repr

/-- What NOTES holds (chapter 2). The kept count is not stored: it is the number of entries (R23, log 13). -/
structure NotesState where
  entries : List Entry
  nextName : Nat
  deferOverflow : PerPort Nat
  sustainFrame : PerPort Bool
  holds : Vector (Option SustainHold) 8
  deriving DecidableEq, Repr

/-- One item of a zone result list (R12). -/
structure ResultItem where
  zone : Nat
  gen : Nat
  dest : Port
  slot : Nat
  key : Nat
  strike : Nat
  deriving DecidableEq, Repr

/-! ### SCENE -/

/-- A song and a scene of it: none together (R49, R75). -/
structure Place where
  song : SongNo
  scene : SceneNo
  deriving DecidableEq, Repr

/-- A LIVE generation record (R49). EMPTY is the absence of one. -/
structure Generation where
  number : Nat
  position : Nat
  place : Option Place
  zones : List ZoneRecord
  presets : List PresetEntry
  deriving DecidableEq, Repr

/-- A settle in progress (R61). NOT SETTLING is the absence of one. -/
structure Settle where
  seen : Bool
  timer : Nat
  deriving DecidableEq, Repr

/-- What SCENE holds (chapter 3). -/
structure SceneState where
  current : Option Generation
  prior : Option Generation
  settle : PerPort (Option Settle)
  expiries : PerPort Nat
  deriving DecidableEq, Repr

/-! ### SETLIST -/

/-- Targets of a change request as given (R77). -/
inductive Target where
  | songAt (i : Nat) | nextSong | prevSong | sceneAt (s : Nat) | nextScene | prevScene | reload
  deriving DecidableEq, Repr

/-- Absolute targets (R78): FIRST is the absence of a scene number. -/
inductive Resolved where
  | song (position : Nat) (scene : Option SceneNo)
  | scene (s : SceneNo)
  | reload
  deriving DecidableEq, Repr

/-- Boundaries (R77). -/
inductive Boundary where
  | immediate | nextBeat | nextBar | atBar (b : Nat)
  deriving DecidableEq, Repr

/-- Sources of a change request (R77). -/
inductive Source where
  | pedal (t : Trigger) | console (p : Port) | cue
  deriving DecidableEq, Repr

/-- A change request as it reaches SETLIST (R77). -/
structure Request where
  source : Source
  target : Target
  boundary : Boundary
  priority : Nat
  deriving DecidableEq, Repr

/-- The request in the pending change slot (R81): its target is resolved. -/
structure PendingChange where
  source : Source
  target : Resolved
  boundary : Boundary
  priority : Nat
  deriving DecidableEq, Repr

/-- What SETLIST holds (chapter 4). -/
structure SetlistState where
  position : Nat
  place : Option Place
  pending : Option PendingChange
  markBar : Nat
  markBeat : Nat
  markPassed : Bool
  deriving DecidableEq, Repr

/-- Actions of a cue-list entry (R72, R90). -/
inductive CueAction where
  | scene (s : Nat) | nextSong | muteOn | muteOff | stop | cue (number width : Nat)
  deriving DecidableEq, Repr

/-! ### TEMPO -/

/-- The count state, present only in COUNTING IN (R92). -/
structure CountState where
  beat : Nat
  total : Nat
  tick : Nat
  numerator : Nat
  deriving DecidableEq, Repr

/-- Transport states (R92). -/
inductive Transport where
  | stopped
  | countingIn (c : CountState)
  | running
  deriving DecidableEq, Repr

/-- Follow states (R92). -/
inductive FollowState where
  | waiting | following | holdover
  deriving DecidableEq, Repr

/-- What TEMPO holds (R92, R107). `followSong` and `countInBars` are the active song's as read at its song entry (R73),
`firstTempo` the tempo of its first tempo-map entry as last looked up (R95, R96; log 12), `lastTick` the rig time of the accumulator's
last tick (R94; log 32). -/
structure TempoState where
  transport : Transport
  bar : Nat
  beat : Nat
  tick : Nat
  acc : Nat
  lastTick : Option Nat
  mapTempo : Nat
  numerator : Nat
  denominator : Nat
  firstTempo : Nat
  override : Option Nat
  lastTap : Option Nat
  taps : List Nat
  follow : FollowState
  measured : Nat
  window : List Nat
  lastClock : Option Nat
  sourceTimer : Option Nat
  sourceLength : Nat
  source : Option Port
  followSong : Bool
  countInBars : Nat
  deriving DecidableEq, Repr

/-! ### CLICK and PEDAL -/

/-- A sounding cue (R114): IDLE is the absence of one. -/
structure SoundingCue where
  number : Nat
  timer : Nat
  deriving DecidableEq, Repr

/-- What CLICK holds (R114). -/
structure ClickState where
  cueMute : Bool
  heldMutes : Vector Bool 8
  cue : Option SoundingCue
  started : PerPort Bool
  deriving DecidableEq, Repr

/-- What PEDAL holds (R127, R129). A bit of `levels` and `filtered` is set for HIGH. `levels` is the level on the pins,
`lastSample` the time in ms of the last sample, none before the first sample of R134. -/
structure PedalState where
  levels : BitVec 8
  filtered : BitVec 8
  counts : Vector Nat 8
  armed : Vector Bool 8
  held : Vector Bool 8
  lastSample : Option Nat
  deriving DecidableEq, Repr

/-! ### WATCH -/

/-- Presence states (R138), in the order of their codes (12.5). -/
inductive PresenceState where
  | absent | active | out | recovering | cooldown | waiting | barred
  deriving DecidableEq, Repr

/-- Hold-out reasons (R138), in the order of their codes (12.4). -/
inductive Reason where
  | linkDown | presenceTimeout | faultReported | commanded
  deriving DecidableEq, Repr

/-- A set of hold-out reasons. -/
structure Reasons where
  linkDown : Bool
  presenceTimeout : Bool
  faultReported : Bool
  commanded : Bool
  deriving DecidableEq, Repr

/-- A presence record (R138). -/
structure Presence where
  state : PresenceState
  reasons : Reasons
  loss : Nat
  lastReason : Option Reason
  lastTime : Option Nat
  peak : Nat
  worstGap : Nat
  progress : Nat
  presenceTimer : Option Nat
  commandedTimer : Option Nat
  cooldownTimer : Option Nat
  steadyTimer : Option Nat
  deriving DecidableEq, Repr

/-- The record a latched black box holds (R156). -/
structure BlackBox where
  port : Port
  reason : Reason
  barred : Bool
  position : Nat
  place : Option Place
  bar : Nat
  beat : Nat
  tempo : Nat
  transport : Nat
  entries : Nat
  time : Nat
  deriving DecidableEq, Repr

/-- What WATCH holds (chapter 8). -/
structure WatchState where
  modules : PerPort Presence
  map : PerPort (Option Port)
  blackBox : Option BlackBox
  deriving DecidableEq, Repr

/-! ### CONSOLE -/

/-- The seven sticky health flags (R194), in the order of their bits (12.5). -/
inductive Flag where
  | storeInvalid | commitFailed | noteTableFull | queueOverflow | forcedRelease | steal | clockSourceLost
  deriving DecidableEq, Repr

/-- Which flags are raised. -/
structure Flags where
  storeInvalid : Bool
  commitFailed : Bool
  noteTableFull : Bool
  queueOverflow : Bool
  forcedRelease : Bool
  steal : Bool
  clockSourceLost : Bool
  deriving DecidableEq, Repr

/-- A load in progress (R183). `written` counts the records this load has written (R184). -/
structure Load where
  owner : Port
  table : TableId
  next : Nat
  left : Nat
  words : List Word
  written : Nat
  deriving DecidableEq, Repr

/-- A commit that runs (R189): COMPARING until `writing`, then WRITING. IDLE is the absence of one. -/
structure Commit where
  port : Port
  tag : Byte
  writing : Bool
  deriving DecidableEq, Repr

/-- A RESTART whose drain is in progress (R193). -/
structure Drain where
  port : Port
  tag : Byte
  deriving DecidableEq, Repr

/-- Reset causes (R191), in the order of their codes (12.5). -/
inductive ResetCause where
  | powerOn | resetLine | restart
  deriving DecidableEq, Repr

/-- What CONSOLE holds (chapter 10). -/
structure ConsoleState where
  owner : Option Port
  load : Option Load
  commit : Option Commit
  drain : Option Drain
  flags : Flags
  masks : PerPort (BitVec 8)
  cause : ResetCause
  deriving DecidableEq, Repr

end Sys2Proof.Machine
end

