-- ==== Sys2Proof/Machine/Defaults.lean ====
section
/-!
DEFINITION. The default tables (R192) and the values each block holds at device reset.
-/

namespace Sys2Proof.Machine

/-! ### Default tables (R192) -/

/-- A trigger of the default pedal table: the manual gives its empty mask (R134, R192). Pattern LOW, action NEXT SONG, boundary
IMMEDIATE, priority 1, parameter 0 and bar 1, which a READ returns, are the model's choice (DESIGN CHOICE, log 5). -/
def TriggerRecord.empty : TriggerRecord :=
  { mask := 0, pattern := 0, action := .nextSong, boundary := 0, priority := 1, parameter := 0, bar := 1 }

def PedalTable.default : PedalTable :=
  { triggers := Vector.replicate 8 TriggerRecord.empty, debounce := Vector.replicate 8 8, tapCount := 4 }

def SetlistRecord.empty : SetlistRecord := { count := 0, places := List.replicate 64 0 }

def TempoEntry.default : TempoEntry := { bar := 1, tempo := Config.resetTempo, numerator := 4, denominator := 4 }

def TempoEntry.blank : TempoEntry := { bar := 0, tempo := 0, numerator := 0, denominator := 0 }

def CueEntry.blank : CueEntry := { bar := 0, beat := 0, action := 0, argument := 0, width := 0 }

def SongRecord.default : SongRecord :=
  { name := List.replicate 16 32, sceneCount := 1, firstScene := 0, startMode := .manual, countInBars := 0,
    follow := false, cuePriority := 1, tempoCount := 1, cueCount := 0,
    tempoPlaces := TempoEntry.default :: List.replicate 15 TempoEntry.blank,
    cuePlaces := List.replicate 16 CueEntry.blank }

def ZoneRecord.blank : ZoneRecord :=
  { sources := 0, keyLow := 0, keyHigh := 0, strikeLow := 0, strikeHigh := 0, transpose := 0, fold := false, curve := 0,
    gain := 0, offset := 0, port := 0, slot := 0, sustainFollow := false, pressurePass := false, filterMode := .all,
    listCount := 0, list0 := 0, list1 := 0, list2 := 0, list3 := 0 }

def PresetEntry.blank : PresetEntry := { port := 0, slot := 0, bank := 0, preset := 0 }

def SceneRecord.empty : SceneRecord :=
  { zoneCount := 0, presetCount := 0, zonePlaces := List.replicate 16 ZoneRecord.blank,
    presetPlaces := List.replicate 16 PresetEntry.blank }

def Curve.default : Curve := #v[0, 128, 256, 384, 512, 640, 768, 896, 1023]

/-- The default port table: L0 is CONSOLE with the priority-console flag, L1 to L11 are OFF (R178, R192). -/
def defaultPorts : PerPort PortRecord :=
  #v[.console true, .off, .off, .off, .off, .off, .off, .off, .off, .off, .off, .off]

/-- The default tables (R192). Places out of use are filled with zeros: the manual gives them no contents
(DESIGN CHOICE, log 5). -/
def Tables.default : Tables :=
  { ports := defaultPorts, curves := Vector.replicate 8 Curve.default, pedal := .default, setlist := .empty,
    songs := Vector.replicate 64 .default, scenes := Vector.replicate 512 .empty }

/-! ### Reset values of the blocks -/

/-- A port at device reset: DOWN, silent, everything empty, 0 or stopped (R178). No carrier (log 6), no IDENT sent before
(log 21) and none that waits (log 22) are the model's choice (DESIGN CHOICE). -/
def LinkPort.reset : LinkPort :=
  { phase := .down, carrier := false, queue := [], burst := 0, faults := [], frameFaults := 0, losses := 0,
    unexpected := 0, identTimer := none, refusalTimer := none, faultHold := none, lastIdent := none,
    identWaiting := false, sending := none, freeAt := 0 }

/-- NOTES at device reset (R47). Entry names, counted from 0, are the model's own (DESIGN CHOICE, log 14). -/
def NotesState.reset : NotesState :=
  { entries := [], nextName := 0, deferOverflow := Vector.replicate 12 0, sustainFrame := Vector.replicate 12 false,
    holds := Vector.replicate 8 none }

/-- SCENE at device reset (R68). -/
def SceneState.reset : SceneState :=
  { current := none, prior := none, settle := Vector.replicate 12 none, expiries := Vector.replicate 12 0 }

/-- SETLIST at device reset: the pending change slot and the cue mark (R76). R76 sets the active position record when the
store load has completed and gives it no value before; until then setlist position 0, song none and scene none are the
model's choice (DESIGN CHOICE, log 5). -/
def SetlistState.reset : SetlistState :=
  { position := 0, place := none, pending := none, markBar := 1, markBeat := 1, markPassed := false }

/-- TEMPO at device reset (R112). What it keeps of a song (log 12), the source timer's length (log 27) and the time of the
accumulator's last tick (log 32) are the model's choice (DESIGN CHOICE). No port is UP, so no timing source (R107,
R178). -/
def TempoState.reset : TempoState :=
  { transport := .stopped, bar := 1, beat := 1, tick := 0, acc := 0, lastTick := none, mapTempo := Config.resetTempo, numerator := 4,
    denominator := 4, firstTempo := Config.resetTempo, override := none, lastTap := none, taps := [],
    follow := .waiting, measured := Config.resetTempo, window := [], lastClock := none, sourceTimer := none,
    sourceLength := 0, source := none, followSong := false, countInBars := 0 }

/-- CLICK at device reset (R126). -/
def ClickState.reset : ClickState :=
  { cueMute := false, heldMutes := Vector.replicate 8 false, cue := none, started := Vector.replicate 12 false }

/-- PEDAL at device reset, before its first sample, which sets all of it (R134). The lines are pulled up: HIGH (07,
opening). Filtered levels, debounce counts and armed states before that sample are the model's choice (DESIGN CHOICE,
log 6). -/
def PedalState.reset : PedalState :=
  { levels := 255, filtered := 255, counts := Vector.replicate 8 0, armed := Vector.replicate 8 false,
    held := Vector.replicate 8 false, lastSample := none }

def Reasons.empty : Reasons :=
  { linkDown := false, presenceTimeout := false, faultReported := false, commanded := false }

/-- A fresh presence record (R159, R161). -/
def Presence.reset : Presence :=
  { state := .absent, reasons := .empty, loss := 0, lastReason := none, lastTime := none, peak := 0, worstGap := 0,
    progress := 0, presenceTimer := none, commandedTimer := none, cooldownTimer := none, steadyTimer := none }

/-- WATCH at device reset (R159). -/
def WatchState.reset : WatchState :=
  { modules := Vector.replicate 12 .reset, map := Vector.replicate 12 none, blackBox := none }

/-- No flag raised. -/
def Flags.clear : Flags :=
  { storeInvalid := false, commitFailed := false, noteTableFull := false, queueOverflow := false,
    forcedRelease := false, steal := false, clockSourceLost := false }

/-- CONSOLE at device reset (R191): every mask has all kinds enabled (R195). -/
def ConsoleState.reset : ConsoleState :=
  { owner := none, load := none, commit := none, drain := none, flags := .clear, masks := Vector.replicate 12 255,
    cause := .powerOn }

end Sys2Proof.Machine
end

