-- ==== Sys2Proof/Machine/State.lean ====
section
/-!
DEFINITION. The state of the part, the reasons a step could stop, and the state after reset.
-/

namespace Sys2Proof.Machine

/-- Everything the part holds: its ten blocks, table memory, the stored set, and rig time. `free` counts the free values
used (the model's own, log 8). -/
structure Part where
  /-- Rig time: µs since the last device reset (00 section 5). -/
  now : Nat
  /-- The start-up store load is under way (R178, R191). -/
  starting : Bool
  tables : Tables
  /-- The stored set: none is an image whose check fails (R190). -/
  stored : Option Tables
  links : PerPort LinkPort
  notes : NotesState
  scene : SceneState
  setlist : SetlistState
  tempo : TempoState
  click : ClickState
  pedal : PedalState
  watch : WatchState
  console : ConsoleState
  free : Nat
  deriving DecidableEq, Repr

/-- The state of the model: the part, and the queue of the commands that wait, first in, first out. -/
structure State where
  part : Part
  pending : List Instr
  deriving DecidableEq, Repr

/-- Faults. The manual gives the part no behaviour that stops it (INVENTORY, Faults), so no command raises one. -/
inductive Fault where
  /-- Raised by no command: the part never stops. Safe: it would only stop a run. -/
  | partStops
  deriving DecidableEq, Repr

/-- Refusals. -/
inductive Refusal where
  /-- Raised by exec's arm of a command that has no meaning yet. Safe: it stops the run. No arm raises it. -/
  | notModelled (mnemonic : String)
  deriving DecidableEq, Repr

/-- The part after power-on, the store load just begun (R191). Table memory, the stored set and the active position record
until the store load completes are the model's choice (DESIGN CHOICE, log 5). -/
def Part.reset : Part :=
  { now := 0, starting := true, tables := .default, stored := none, links := Vector.replicate 12 .reset,
    notes := .reset, scene := .reset, setlist := .reset, tempo := .reset, click := .reset, pedal := .reset,
    watch := .reset, console := .reset, free := 0 }

/-- The machine right after reset: no command waits. -/
def State.reset : State := { part := .reset, pending := [] }

end Sys2Proof.Machine
end

