-- ==== Sys2Proof/Machine/Operands.lean ====
section
/-!
DEFINITION. Fields of words, clamps, and the operand words of console requests (12.3).
-/

namespace Sys2Proof.Machine

/-! ### Fields of a word -/

/-- The field of a word written "hi-lo" (12, opening paragraph). -/
def field (w : Word) (hi lo : Nat) : Nat := w.toNat / 2 ^ lo % 2 ^ (hi + 1 - lo)

/-- One bit of a word. -/
def bit (w : Word) (i : Nat) : Bool := w.toNat.testBit i

/-- The word holding a number, modulo 65536. -/
def word (n : Nat) : Word := BitVec.ofNat 16 n

/-- A number placed from bit `lo` of a word up. -/
def at_ (x lo : Nat) : Nat := x * 2 ^ lo

/-- A yes or no placed at a bit of a word. -/
def bitAt (b : Bool) (i : Nat) : Nat := if b then 2 ^ i else 0

/-- The signed reading of an n-bit field (12: two's complement). -/
def signed (n x : Nat) : Int := if x < 2 ^ (n - 1) then (x : Int) else (x : Int) - 2 ^ n

/-- The n-bit field of a signed value. -/
def unsigned (n : Nat) (x : Int) : Nat := (x % 2 ^ n).toNat

/-- Word `i` of a list of words, 0 where there is none. -/
def wordAt (ws : List Word) (i : Nat) : Word := ws.getD i 0

/-! ### Clamps (00 section 4) -/

/-- "Clamped to a-b". -/
def clamp (a b x : Nat) : Nat := if x < a then a else if b < x then b else x

/-- "Clamped to a-b", for signed values. -/
def clampInt (a b x : Int) : Int := if x < a then a else if b < x then b else x

/-- A counter that holds at its highest value. -/
def bump (top x : Nat) : Nat := if x < top then x + 1 else x

/-- A port number 0-15 as a port: 12 to 15 name none (R11, R56). -/
def portOf (n : Nat) : Option Port := if h : n < 12 then some ⟨n, h⟩ else none

/-- All ports, in port number order. -/
def allPorts : List Port := [0, 1, 2, 3, 4, 5, 6, 7, 8, 9, 10, 11]

/-- All triggers and lines, in number order. -/
def allTriggers : List Trigger := [0, 1, 2, 3, 4, 5, 6, 7]

/-! ### Codes of change requests (12.3) -/

/-- Boundary of a code, with the bar for AT BAR (R77: bar clamped to 1-9999). -/
def boundaryOf (code bar : Nat) : Option Boundary :=
  match code with
  | 0 => some .immediate
  | 1 => some .nextBeat
  | 2 => some .nextBar
  | 3 => some (.atBar (clamp 1 9999 bar))
  | _ => none

def Boundary.code : Boundary → Nat
  | .immediate => 0
  | .nextBeat => 1
  | .nextBar => 2
  | .atBar _ => 3

/-- The bar a boundary carries: 0 where it carries none. -/
def Boundary.bar : Boundary → Nat
  | .atBar b => b
  | .immediate | .nextBeat | .nextBar => 0

/-- Target of a SELECT code and argument (12.3): code 7 names none. -/
def targetOf (code argument : Nat) : Option Target :=
  match code with
  | 0 => some (.songAt argument)
  | 1 => some .nextSong
  | 2 => some .prevSong
  | 3 => some (.sceneAt (clamp 0 7 argument))
  | 4 => some .nextScene
  | 5 => some .prevScene
  | 6 => some .reload
  | _ => none

def Target.code : Target → Nat
  | .songAt _ => 0
  | .nextSong => 1
  | .prevSong => 2
  | .sceneAt _ => 3
  | .nextScene => 4
  | .prevScene => 5
  | .reload => 6

/-- The argument a target carries: 0 where it carries none. -/
def Target.argument : Target → Nat
  | .songAt i => i
  | .sceneAt s => s
  | .nextSong | .prevSong | .nextScene | .prevScene | .reload => 0

/-! ### Request words from 2 on (12.3): none where the payload is too short or a code names nothing -/

/-- CLAIM: whether FORCE is set. -/
def claimArgs : List Word → Option Bool
  | w2 :: _ => some (bit w2 0)
  | [] => none

/-- What a LOAD BEGIN names: a table code, a first index and a count. -/
structure LoadBeginArgs where
  table : Nat
  first : Nat
  count : Nat
  deriving DecidableEq, Repr

def loadBeginArgs : List Word → Option LoadBeginArgs
  | w2 :: w3 :: w4 :: _ => some { table := field w2 2 0, first := field w3 9 0, count := field w4 6 0 }
  | _ => none

/-- LOAD DATA: 1 to 14 words, all of them data (R184). -/
def loadDataArgs (args : List Word) : Option (List Word) :=
  if 1 ≤ args.length ∧ args.length ≤ 14 then some args else none

/-- LOAD RUN: a count 2 to 256 and a word, standing for that word repeated (R184). -/
def loadRunArgs : List Word → Option (List Word)
  | w2 :: w3 :: _ =>
    if 2 ≤ field w2 8 0 ∧ field w2 8 0 ≤ 256 then some (List.replicate (field w2 8 0) w3) else none
  | _ => none

/-- What a READ names: a table code, an index and a word offset. -/
structure ReadArgs where
  table : Nat
  index : Nat
  offset : Nat
  deriving DecidableEq, Repr

def readArgs : List Word → Option ReadArgs
  | w2 :: w3 :: w4 :: _ => some { table := field w2 2 0, index := field w3 9 0, offset := field w4 7 0 }
  | _ => none

/-- READ NOTES: the start index. -/
def readNotesArgs : List Word → Option Nat
  | w2 :: _ => some (field w2 7 0)
  | [] => none

/-- PORT STATUS and RETURN: the port number, 0 to 15. -/
def portArgs : List Word → Option Nat
  | w2 :: _ => some (field w2 3 0)
  | [] => none

/-- What a SELECT carries (R77): the priority clamped to 1-3. -/
structure SelectArgs where
  target : Target
  boundary : Boundary
  priority : Nat
  deriving DecidableEq, Repr

def selectArgs : List Word → Option SelectArgs
  | w2 :: w3 :: _ =>
    match targetOf (field w2 2 0) (field w2 15 8), boundaryOf (field w2 5 4) (field w3 13 0) with
    | some t, some b => some { target := t, boundary := b, priority := clamp 1 3 (field w2 7 6) }
    | _, _ => none
  | _ => none

/-- TEMPO SET: the tempo. -/
def tempoSetArgs : List Word → Option Nat
  | w2 :: _ => some w2.toNat
  | [] => none

/-- What a TAKE OUT carries: a port number and a duration in ms, at most 600,000 (R147). -/
structure TakeOutArgs where
  port : Nat
  duration : Nat
  deriving DecidableEq, Repr

def takeOutArgs : List Word → Option TakeOutArgs
  | w2 :: w3 :: w4 :: _ =>
    some { port := field w2 3 0, duration := clamp 0 600000 (w3.toNat * 65536 + w4.toNat) }
  | _ => none

/-- NOTICE MASK: one bit per notice kind. -/
def noticeMaskArgs : List Word → Option (BitVec 8)
  | w2 :: _ => some (w2.setWidth 8)
  | [] => none

end Sys2Proof.Machine
end

