-- ==== Sys2Proof/Machine/Records.lean ====
section
/-!
DEFINITION. The loadable records (12.6): reading the words of a record, the clamps and structural faults of a load
(R3, R4, R59, R71, R72, R105, R114, R128, R137, R162, R184), and the words a READ returns (R186).
-/

namespace Sys2Proof.Machine

/-! ### Tables -/

/-- Table codes (12.3): 6 and 7 name none. -/
def tableOf : Nat → Option TableId
  | 0 => some .port
  | 1 => some .curve
  | 2 => some .pedal
  | 3 => some .setlist
  | 4 => some .song
  | 5 => some .scene
  | _ => none

def TableId.code : TableId → Nat
  | .port => 0
  | .curve => 1
  | .pedal => 2
  | .setlist => 3
  | .song => 4
  | .scene => 5

/-- How many records a table has (R183). -/
def TableId.records : TableId → Nat
  | .port => 12
  | .curve => 8
  | .pedal => 1
  | .setlist => 1
  | .song => 64
  | .scene => 512

/-- Record lengths in words (12.6). -/
def TableId.recordLength : TableId → Nat
  | .port => 8
  | .curve => 9
  | .pedal => 29
  | .setlist => 65
  | .song => 106
  | .scene => 209

/-! ### Port records -/

def divisorOf : Nat → Divisor
  | 1 => .d1
  | 2 => .d2
  | 3 => .d4
  | 4 => .d8
  | _ => .off

def Divisor.code : Divisor → Nat
  | .off => 0
  | .d1 => 1
  | .d2 => 2
  | .d4 => 3
  | .d8 => 4

/-- The divisor as a number of ticks; none for OFF (R123). -/
def Divisor.ticks : Divisor → Option Nat
  | .off => none
  | .d1 => some 1
  | .d2 => some 2
  | .d4 => some 4
  | .d8 => some 8

/-- Another code than NEXT SCENE or NEXT SONG is stored as IMMEDIATE (R137). -/
def returnPolicyOf : Nat → ReturnPolicy
  | 1 => .nextScene
  | 2 => .nextSong
  | _ => .immediate

def ReturnPolicy.code : ReturnPolicy → Nat
  | .immediate => 0
  | .nextScene => 1
  | .nextSong => 2

/-- A number rounded down to 1, 2, 4 or 8, with 0 taken as 1 (R105). -/
def roundDown8 (x : Nat) : Nat := if 8 ≤ x then 8 else if 4 ≤ x then 4 else if 2 ≤ x then 2 else 1

/-- A number rounded down to 1, 2, 4, 8 or 16, with 0 taken as 1 (R107). -/
def roundDown16 (x : Nat) : Nat := if 16 ≤ x then 16 else roundDown8 x

/-- The fields of a MODULE record as loaded, clamped by R23, R61, R114 and R137. -/
def moduleOfWords (ws : List Word) : ModuleFields :=
  let w3 := wordAt ws 3
  { voiceBudget := clamp 1 128 (field (wordAt ws 1) 7 0)
    settleLimit := clamp 10 2000 (wordAt ws 2).toNat
    divisor := divisorOf (field w3 2 0)
    restrikeHeld := field w3 4 3 == 1
    returnPolicy := returnPolicyOf (field w3 6 5)
    recoveryCount := clamp 1 8 (field w3 11 8)
    flapLimit := clamp 1 8 (field w3 15 12)
    presenceTimeout := clamp 50 2000 (wordAt ws 4).toNat / 10 * 10
    backupPort := field (wordAt ws 5) 3 0
    backupNone := bit (wordAt ws 5) 4
    cooldown := clamp 0 10000 (wordAt ws 6).toNat
    steadyPeriod := clamp 10 600 (wordAt ws 7).toNat }

def moduleToWords (m : ModuleFields) : List Word :=
  [ word m.voiceBudget
  , word m.settleLimit
  , word (m.divisor.code + bitAt m.restrikeHeld 3 + at_ m.returnPolicy.code 5 + at_ m.recoveryCount 8
      + at_ m.flapLimit 12)
  , word m.presenceTimeout
  , word (m.backupPort + bitAt m.backupNone 4)
  , word m.cooldown
  , word m.steadyPeriod ]

/-- BAND fields (R114): subdivision 0 is stored as 1, a value above 4 as 4. -/
def bandOfWords (ws : List Word) : BandFields :=
  { subdivision := clamp 1 4 (field (wordAt ws 1) 2 0), warn := bit (wordAt ws 1) 4, mute := bit (wordAt ws 1) 5 }

/-- A port record; none for a role code that names no role (R162). -/
def portOfWords (ws : List Word) : Option PortRecord :=
  match field (wordAt ws 0) 2 0 with
  | 0 => some .off
  | 1 => some .controller
  | 2 => some (.modulePort (moduleOfWords ws))
  | 3 => some (.band (bandOfWords ws))
  | 4 => some (.console (bit (wordAt ws 1) 0))
  | 5 => some (.timing (roundDown16 (field (wordAt ws 1) 4 0)))
  | _ => none

def Role.code : Role → Nat
  | .off => 0
  | .controller => 1
  | .modulePort => 2
  | .band => 3
  | .console => 4
  | .timing => 5

/-- Words that the role does not use read back as 0 (R186, 12.6). -/
def portToWords (r : PortRecord) : List Word :=
  let fields := match r with
    | .modulePort m => moduleToWords m
    | .band b => [word (b.subdivision + bitAt b.warn 4 + bitAt b.mute 5)]
    | .console f => [word (bitAt f 0)]
    | .timing n => [word n]
    | .off | .controller => []
  (word r.role.code :: fields ++ List.replicate 7 0).take 8

/-! ### Curves -/

def curvePoint (ws : List Word) (i : Nat) : Nat := clamp 0 1023 (wordAt ws i).toNat

/-- All nine points, each clamped to 0-1023 (R4). -/
def curveOfWords (ws : List Word) : Curve :=
  #v[curvePoint ws 0, curvePoint ws 1, curvePoint ws 2, curvePoint ws 3, curvePoint ws 4, curvePoint ws 5,
     curvePoint ws 6, curvePoint ws 7, curvePoint ws 8]

def curveToWords (c : Curve) : List Word := c.toList.map word

/-! ### The pedal table -/

def triggerActionOf : Nat → Option TriggerAction
  | 0 => some .nextSong
  | 1 => some .prevSong
  | 2 => some .nextScene
  | 3 => some .prevScene
  | 4 => some .songAt
  | 5 => some .sceneAt
  | 6 => some .startStop
  | 7 => some .tap
  | 8 => some .cueStop
  | 9 => some .panic
  | 10 => some .sustain
  | 11 => some .clickMute
  | _ => none

def TriggerAction.code : TriggerAction → Nat
  | .nextSong => 0
  | .prevSong => 1
  | .nextScene => 2
  | .prevScene => 3
  | .songAt => 4
  | .sceneAt => 5
  | .startStop => 6
  | .tap => 7
  | .cueStop => 8
  | .panic => 9
  | .sustain => 10
  | .clickMute => 11

/-- The change actions of R128. -/
def TriggerAction.isChange : TriggerAction → Bool
  | .nextSong | .prevSong | .nextScene | .prevScene | .songAt | .sceneAt => true
  | .startStop | .tap | .cueStop | .panic | .sustain | .clickMute => false

/-- The parameter as its action stores it (R128): the layout gives SUSTAIN the bits 13-10 (12.6). An action that reads none
keeps it as loaded (DESIGN CHOICE, log 33). -/
def triggerParameter (a : TriggerAction) (x : Nat) : Nat :=
  match a with
  | .sceneAt => clamp 0 7 x
  | .sustain => x % 16
  | .songAt | .nextSong | .prevSong | .nextScene | .prevScene | .startStop | .tap | .cueStop | .panic
  | .clickMute => x

/-- A trigger record; none for an unknown action, or an unknown boundary of a change action (R128). -/
def triggerOfWords (w0 w1 w2 : Word) : Option TriggerRecord :=
  match triggerActionOf (field w1 3 0) with
  | none => none
  | some a =>
    if a.isChange && (boundaryOf (field w1 6 4) 1).isNone then none
    else some
      { mask := w0.setWidth 8
        pattern := (w0 >>> 8).setWidth 8
        action := a
        boundary := field w1 6 4
        priority := clamp 1 3 (field w1 9 8)
        parameter := triggerParameter a (field w1 15 10)
        bar := clamp 1 9999 (field w2 13 0) }

def triggerToWords (t : TriggerRecord) : List Word :=
  [ word (t.mask.toNat + at_ t.pattern.toNat 8)
  , word (t.action.code + at_ t.boundary 4 + at_ t.priority 8 + at_ t.parameter 10)
  , word t.bar ]

/-- Debounce time of line `i`: 1-32, 0 taken as 1 (R127). -/
def debounceOfWords (ws : List Word) (i : Nat) : Nat :=
  let w := wordAt ws (24 + i / 2)
  clamp 1 32 (if i % 2 = 0 then field w 5 0 else field w 13 8)

/-- Trigger `i` of the words of a pedal record. -/
def triggerPlace (ws : List Word) (i : Nat) : Option TriggerRecord :=
  triggerOfWords (wordAt ws (3 * i)) (wordAt ws (3 * i + 1)) (wordAt ws (3 * i + 2))

/-- The pedal record; none where one of its triggers is refused (R128). -/
def pedalOfWords (ws : List Word) : Option PedalTable := do
  let t0 ← triggerPlace ws 0
  let t1 ← triggerPlace ws 1
  let t2 ← triggerPlace ws 2
  let t3 ← triggerPlace ws 3
  let t4 ← triggerPlace ws 4
  let t5 ← triggerPlace ws 5
  let t6 ← triggerPlace ws 6
  let t7 ← triggerPlace ws 7
  some
    { triggers := #v[t0, t1, t2, t3, t4, t5, t6, t7]
      debounce := #v[debounceOfWords ws 0, debounceOfWords ws 1, debounceOfWords ws 2, debounceOfWords ws 3,
                     debounceOfWords ws 4, debounceOfWords ws 5, debounceOfWords ws 6, debounceOfWords ws 7]
      tapCount := roundDown8 (field (wordAt ws 28) 3 0) }

def pedalToWords (t : PedalTable) : List Word :=
  t.triggers.toList.flatMap triggerToWords
    ++ [ word (t.debounce[0] + at_ t.debounce[1] 8), word (t.debounce[2] + at_ t.debounce[3] 8)
       , word (t.debounce[4] + at_ t.debounce[5] 8), word (t.debounce[6] + at_ t.debounce[7] 8)
       , word t.tapCount ]

/-! ### The setlist -/

def songNo (n : Nat) : SongNo := ⟨n % 64, Nat.mod_lt _ (by decide)⟩

/-- The setlist (R71): the count clamped to 0-64, every song number as loaded. -/
def setlistOfWords (ws : List Word) : SetlistRecord :=
  { count := clamp 0 64 (field (wordAt ws 0) 6 0)
    places := (List.range 64).map fun i => songNo (field (wordAt ws (i + 1)) 5 0) }

def setlistToWords (r : SetlistRecord) : List Word := word r.count :: r.places.map fun n => word n.val

/-! ### Song records -/

def startModeOf : Nat → Option StartMode
  | 0 => some .manual
  | 1 => some .countIn
  | 2 => some .continue_
  | _ => none

def StartMode.code : StartMode → Nat
  | .manual => 0
  | .countIn => 1
  | .continue_ => 2

/-- A tempo-map place as loaded. -/
def tempoPlace (ws : List Word) (i : Nat) : TempoEntry :=
  let w := wordAt ws (10 + 3 * i + 2)
  { bar := field (wordAt ws (10 + 3 * i)) 13 0, tempo := (wordAt ws (10 + 3 * i + 1)).toNat, numerator := field w 3 0,
    denominator := field w 12 8 }

/-- The clamps of a tempo-map entry in use (R72). -/
def TempoEntry.clamped (e : TempoEntry) : TempoEntry :=
  { bar := clamp 1 9999 e.bar, tempo := clamp Config.tempoLow Config.tempoHigh e.tempo,
    numerator := clamp 1 15 e.numerator, denominator := e.denominator }

/-- A cue place as loaded. -/
def cuePlace (ws : List Word) (i : Nat) : CueEntry :=
  let w := wordAt ws (58 + 3 * i + 1)
  { bar := field (wordAt ws (58 + 3 * i)) 13 0, beat := field w 3 0, action := field w 7 4, argument := field w 15 8,
    width := (wordAt ws (58 + 3 * i + 2)).toNat }

/-- The clamps of a cue-list entry in use (R72): action 0 is SCENE, action 5 CUE. An argument or a width that the action has
none of is kept as loaded (DESIGN CHOICE, log 33). -/
def CueEntry.clamped (e : CueEntry) : CueEntry :=
  { bar := clamp 1 9999 e.bar, beat := clamp 1 15 e.beat, action := e.action,
    argument := if e.action = 0 then clamp 0 7 e.argument else e.argument,
    width := if e.action = 5 then clamp 10 5000 e.width else e.width }

/-- What a cue-list entry does (R72, R90); none for an unknown action code. -/
def CueEntry.act (e : CueEntry) : Option CueAction :=
  match e.action with
  | 0 => some (.scene e.argument)
  | 1 => some .nextSong
  | 2 => some .muteOn
  | 3 => some .muteOff
  | 4 => some .stop
  | 5 => some (.cue e.argument e.width)
  | _ => none

/-- The first `n` places changed by `f`, the others as they are (R184). -/
def clampPlaces {α : Type} (f : α → α) (n : Nat) (xs : List α) : List α := (xs.take n).map f ++ xs.drop n

/-- Bars strictly increase. -/
def barsRise : List TempoEntry → Bool
  | a :: b :: rest => a.bar < b.bar && barsRise (b :: rest)
  | _ => true

/-- (bar, beat) strictly increases. -/
def cuesRise : List CueEntry → Bool
  | a :: b :: rest => (a.bar < b.bar || (a.bar == b.bar && a.beat < b.beat)) && cuesRise (b :: rest)
  | _ => true

/-- The denominators of R72. -/
def denominatorOk (d : Nat) : Bool := d == 2 || d == 4 || d == 8 || d == 16

/-- A song record's words as a record, or the fault that refuses it (R72): BAD VALUE before BAD ORDER. -/
def songOfWords (ws : List Word) : Except Result SongRecord :=
  let w8 := wordAt ws 8
  let w9 := wordAt ws 9
  let sceneCount := clamp 1 8 (field w8 3 0)
  let tempoCount := clamp 1 16 (field w9 8 4)
  let cueCount := clamp 0 16 (field w9 14 10)
  let tempoPlaces := clampPlaces TempoEntry.clamped tempoCount ((List.range 16).map (tempoPlace ws))
  let cuePlaces := clampPlaces CueEntry.clamped cueCount ((List.range 16).map (cuePlace ws))
  let map := tempoPlaces.take tempoCount
  let cues := cuePlaces.take cueCount
  match startModeOf (field w8 9 8) with
  | none => .error .badValue
  | some mode =>
    if !(map.all fun e => denominatorOk e.denominator) then .error .badValue
    else if !(cues.all fun e => e.act.isSome) then .error .badValue
    else if (map.map TempoEntry.bar).head? != some 1 || !barsRise map then .error .badOrder
    else if !cuesRise cues then .error .badOrder
    else .ok
      { name := (List.range 8).flatMap fun i =>
          [((wordAt ws i) >>> 8).setWidth 8, (wordAt ws i).setWidth 8]
        sceneCount := sceneCount
        firstScene := clamp 0 (sceneCount - 1) (field w8 6 4)
        startMode := mode
        countInBars := clamp 0 4 (field w8 14 12)
        follow := bit w8 10
        cuePriority := clamp 1 3 (field w9 1 0)
        tempoCount := tempoCount
        cueCount := cueCount
        tempoPlaces := tempoPlaces
        cuePlaces := cuePlaces }

/-- Two characters to a word, the first in bits 15-8 (12.6). -/
def nameToWords : List Byte → List Word
  | a :: b :: rest => word (at_ a.toNat 8 + b.toNat) :: nameToWords rest
  | _ => []

def songToWords (r : SongRecord) : List Word :=
  nameToWords r.name
    ++ [ word (r.sceneCount + at_ r.firstScene 4 + at_ r.startMode.code 8 + bitAt r.follow 10 + at_ r.countInBars 12)
       , word (r.cuePriority + at_ r.tempoCount 4 + at_ r.cueCount 10) ]
    ++ r.tempoPlaces.flatMap (fun e => [word e.bar, word e.tempo, word (e.numerator + at_ e.denominator 8)])
    ++ r.cuePlaces.flatMap (fun e =>
        [word e.bar, word (e.beat + at_ e.action 4 + at_ e.argument 8), word e.width])

/-! ### Scene records -/

def filterModeOf : Nat → FilterMode
  | 0 => .all
  | 1 => .none_
  | 2 => .list
  | _ => .reserved

def FilterMode.code : FilterMode → Nat
  | .all => 0
  | .none_ => 1
  | .list => 2
  | .reserved => 3

/-- A zone place as loaded (12.6). -/
def zonePlace (ws : List Word) (i : Nat) : ZoneRecord :=
  let w k := wordAt ws (1 + 10 * i + k)
  { sources := (w 0).setWidth 12
    keyLow := field (w 1) 6 0
    keyHigh := field (w 1) 14 8
    strikeLow := field (w 2) 9 0
    strikeHigh := field (w 3) 9 0
    transpose := signed 8 (field (w 4) 7 0)
    fold := bit (w 4) 8
    curve := field (w 4) 15 12
    gain := field (w 5) 7 0
    offset := signed 16 (w 6).toNat
    port := field (w 7) 3 0
    slot := field (w 7) 12 8
    sustainFollow := bit (w 5) 8
    pressurePass := bit (w 5) 9
    filterMode := filterModeOf (field (w 5) 11 10)
    listCount := field (w 5) 14 12
    list0 := field (w 8) 7 0
    list1 := field (w 8) 15 8
    list2 := field (w 9) 7 0
    list3 := field (w 9) 15 8 }

/-- The clamps of a zone in use (R3). -/
def ZoneRecord.clamped (z : ZoneRecord) : ZoneRecord :=
  { z with
    strikeLow := clamp 1 1023 z.strikeLow
    strikeHigh := clamp 1 1023 z.strikeHigh
    transpose := clampInt (-48) 48 z.transpose
    curve := clamp 0 8 z.curve
    gain := clamp 0 127 z.gain
    offset := clampInt (-512) 511 z.offset
    filterMode := if z.filterMode = .reserved then .none_ else z.filterMode
    listCount := clamp 0 4 z.listCount }

/-- A preset place as loaded (12.6, R59). -/
def presetPlace (ws : List Word) (i : Nat) : PresetEntry :=
  let w k := wordAt ws (161 + 3 * i + k)
  { port := field (w 0) 3 0, slot := field (w 0) 12 8, bank := field (w 1) 9 0, preset := field (w 2) 9 0 }

/-- A scene record (R3, R59): the counts clamped to 0-16, the zones in use clamped. It is never refused. -/
def sceneOfWords (ws : List Word) : SceneRecord :=
  let zoneCount := clamp 0 16 (field (wordAt ws 0) 4 0)
  { zoneCount := zoneCount
    presetCount := clamp 0 16 (field (wordAt ws 0) 12 8)
    zonePlaces := clampPlaces ZoneRecord.clamped zoneCount ((List.range 16).map (zonePlace ws))
    presetPlaces := (List.range 16).map (presetPlace ws) }

def zoneToWords (z : ZoneRecord) : List Word :=
  [ z.sources.setWidth 16
  , word (z.keyLow + at_ z.keyHigh 8)
  , word z.strikeLow
  , word z.strikeHigh
  , word (unsigned 8 z.transpose + bitAt z.fold 8 + at_ z.curve 12)
  , word (z.gain + bitAt z.sustainFollow 8 + bitAt z.pressurePass 9 + at_ z.filterMode.code 10 + at_ z.listCount 12)
  , word (unsigned 16 z.offset)
  , word (z.port + at_ z.slot 8)
  , word (z.list0 + at_ z.list1 8)
  , word (z.list2 + at_ z.list3 8) ]

def presetToWords (e : PresetEntry) : List Word := [word (e.port + at_ e.slot 8), word e.bank, word e.preset]

def sceneToWords (r : SceneRecord) : List Word :=
  word (r.zoneCount + at_ r.presetCount 8) :: r.zonePlaces.flatMap zoneToWords ++ r.presetPlaces.flatMap presetToWords

/-! ### Any record -/

/-- The check of a complete record (R184): the record as clamped, or the fault that refuses it. -/
def recordOfWords (t : TableId) (ws : List Word) : Except Result Record :=
  match t with
  | .port => match portOfWords ws with
    | some r => .ok (.port r)
    | none => .error .badValue
  | .curve => .ok (.curve (curveOfWords ws))
  | .pedal => match pedalOfWords ws with
    | some r => .ok (.pedal r)
    | none => .error .badValue
  | .setlist => .ok (.setlist (setlistOfWords ws))
  | .song => match songOfWords ws with
    | .ok r => .ok (.song r)
    | .error e => .error e
  | .scene => .ok (.scene (sceneOfWords ws))

/-- The words of a record as a READ returns them (R186): fields at their places, unused bits 0 (R198; log 20). -/
def Record.toWords : Record → List Word
  | .port r => portToWords r
  | .curve r => curveToWords r
  | .pedal r => pedalToWords r
  | .setlist r => setlistToWords r
  | .song r => songToWords r
  | .scene r => sceneToWords r

/-- The stored record of a table at an index; none outside the table's range (R183, R186). -/
def Tables.record (ts : Tables) (t : TableId) (i : Nat) : Option Record :=
  match t with
  | .port => if h : i < 12 then some (.port ts.ports[i]) else none
  | .curve => if h : i < 8 then some (.curve ts.curves[i]) else none
  | .pedal => if i = 0 then some (.pedal ts.pedal) else none
  | .setlist => if i = 0 then some (.setlist ts.setlist) else none
  | .song => if h : i < 64 then some (.song ts.songs[i]) else none
  | .scene => if h : i < 512 then some (.scene ts.scenes[i]) else none

end Sys2Proof.Machine
end

