-- ==== Sys2Proof/Machine/Ops.lean ====
section
/-!
DEFINITION. The named operations that the blocks share: the accessors of the part, the passing of time, the timers, the
tempo the part runs at, the output queues, and what LINK does with a frame it cannot deliver.
-/

namespace Sys2Proof.Machine

/-! ### Accessors -/

/-- One place of a vector changed. -/
def upd {α : Type} {n : Nat} (v : Vector α n) (i : Fin n) (f : α → α) : Vector α n := v.set i (f v[i])

/-- The link state of a port. -/
def Part.link (s : Part) (p : Port) : LinkPort := s.links[p]

def Part.updLink (s : Part) (p : Port) (f : LinkPort → LinkPort) : Part := { s with links := upd s.links p f }

/-- The presence record of a port. -/
def Part.module (s : Part) (p : Port) : Presence := s.watch.modules[p]

def Part.updModule (s : Part) (p : Port) (f : Presence → Presence) : Part :=
  { s with watch := { s.watch with modules := upd s.watch.modules p f } }

/-- The substitution map entry of a port (R143). -/
def Part.substitute (s : Part) (p : Port) : Option Port := s.watch.map[p]

def Part.setSubstitute (s : Part) (p : Port) (b : Option Port) : Part :=
  { s with watch := { s.watch with map := upd s.watch.map p fun _ => b } }

/-- The port record and the role of a port (R162). -/
def Part.port (s : Part) (p : Port) : PortRecord := s.tables.ports[p]

def Part.role (s : Part) (p : Port) : Role := (s.port p).role

/-- The MODULE fields of a port; the defaults where its role is another, which no rule reads. -/
def Part.moduleFields (s : Part) (p : Port) : ModuleFields :=
  match s.port p with
  | .modulePort m => m
  | .off | .controller | .band _ | .console _ | .timing _ => .default

/-- Whether a port is in link phase UP (R165). -/
def Part.isUp (s : Part) (p : Port) : Bool := (s.link p).phase == .up

/-- Whether a port is in UP under a role. -/
def Part.upAs (s : Part) (p : Port) (r : Role) : Bool := s.isUp p && s.role p == r

/-- Whether a port's module is ACTIVE (R138). -/
def Part.isActive (s : Part) (p : Port) : Bool := (s.module p).state == .active

/-- Whether a module is settling (R61). -/
def Part.isSettling (s : Part) (p : Port) : Bool := s.scene.settle[p].isSome

/-- The number of the CURRENT generation; 0 while it is EMPTY, which no key event meets (R20). -/
def Part.currentNumber (s : Part) : Nat :=
  match s.scene.current with
  | some g => g.number
  | none => 0

/-- The song record of a song number, as stored at this moment. -/
def Part.song (s : Part) (n : SongNo) : SongRecord := s.tables.songs[n]

/-- The song record of the active position record, if it names a song (R75). -/
def Part.activeSong (s : Part) : Option SongRecord :=
  match s.setlist.place with
  | some pl => some (s.song pl.song)
  | none => none

/-! ### Time (R94, R138; log 2, 3) -/

/-- Whether the song is one that follows (R92), and its source CLOCK frames make the ticks (R94). -/
def Part.sourceTicks (s : Part) : Bool := s.tempo.followSong && s.tempo.follow == .following

/-- Whether the phase accumulator gathers (R94): in COUNTING IN and RUNNING, unless source CLOCK frames make the ticks. -/
def Part.accRuns (s : Part) : Bool := s.tempo.transport != .stopped && !s.sourceTicks

/-- `us` microseconds pass: rig time advances, and a running accumulator gains 65536 for each (R94). -/
def Part.elapse (s : Part) (us : Nat) : Part :=
  { s with
    now := s.now + us
    tempo := { s.tempo with acc := if s.accRuns then s.tempo.acc + us * Config.accUnit else s.tempo.acc } }

/-- Time passes until a moment; none passes if it is not ahead. -/
def Part.elapseTo (s : Part) (t : Nat) : Part := s.elapse (t - s.now)

/-- Rig time in ms (00 section 5). -/
def Part.ms (s : Part) : Nat := s.now / Config.msec

/-- The moment a timer started now at `n` ms runs out. -/
def Part.inMs (s : Part) (n : Nat) : Nat := s.now + n * Config.msec

/-! ### The tempo the part runs at (R94, R95) -/

/-- The effective tempo of R95. In WAITING it is the tempo of the song's first tempo-map entry as last looked up
(DEDUCED, log 12). -/
def Part.effectiveTempo (s : Part) : Nat :=
  if s.tempo.followSong then
    match s.tempo.follow with
    | .waiting => s.tempo.firstTempo
    | .following => s.tempo.measured
    | .holdover => s.tempo.measured
  else
    match s.tempo.override with
    | some t => t
    | none => s.tempo.mapTempo

/-- The tick interval I = floor(125,000,000 x 65536 / T), in 1/65536 µs (R94). -/
def tickInterval (tempo : Nat) : Nat := 125000000 * Config.accUnit / tempo

/-- A tempo from an interval: floor((n + floor(avg / 2)) / avg), clamped to 3000-30000 (R105, R109). -/
def tempoOfInterval (n avg : Nat) : Nat := clamp Config.tempoLow Config.tempoHigh ((n + avg / 2) / avg)

/-- floor(sum / number) of a list of intervals. -/
def average (xs : List Nat) : Nat := xs.sum / xs.length

/-! ### Output queues (R171) -/

/-- A frame joins the young end of a queue that has room; a full queue discards it. No flag. -/
def Part.enqueue (s : Part) (p : Port) (it : QueueItem) : Part × Bool :=
  if (s.link p).phase = .up ∧ (s.link p).queue.length < Config.queueDepth then
    (s.updLink p fun l => { l with queue := l.queue ++ [it] }, true)
  else (s, false)

/-! ### The free values (log 8) -/

/-- A value the manual does not state, and the state with it used up. -/
def Part.freshValue (s : Part) : Nat × Part := (Config.freeValue s.free, { s with free := s.free + 1 })

/-! ### Frames that are not delivered (R170) -/

/-- A frame not accepted in the port's phase and role is discarded and counted. -/
def Part.countUnexpected (s : Part) (p : Port) : Part :=
  s.updLink p fun l => { l with unexpected := bump 65535 l.unexpected }

/-- A frame whose kind the role `r` accepts in UP (R170): taken by `body` there, discarded and counted in IDENT, in
REFUSED and under another role, and not taken at all in OFF and DOWN (R165). -/
def Part.accept (s : Part) (p : Port) (r : Role) (body : Part → Part) : Part :=
  match (s.link p).phase with
  | .off | .down => s
  | .ident | .refused => s.countUnexpected p
  | .up => if s.role p = r then body s else s.countUnexpected p

/-! ### The outcome of a command -/

/-- A command's effect on the part. The queue is left as it is, and no command stops the part (INVENTORY, Faults). -/
def State.act (s : State) (f : Part → Part) : Host.Outcome State Fault Refusal := .next { s with part := f s.part }

end Sys2Proof.Machine
end

