-- ==== Sys2Proof/Machine/Frames.lean ====
section
/-!
DEFINITION. The words of frames: the frames the part sends (12.1, 12.2, R197), the words of the line (R196), and how
received words become the commands of the table (R168, R170, R197, R198).
-/

namespace Sys2Proof.Machine

/-! ### Codes -/

def Accent.code : Accent → Nat
  | .downbeat => 0
  | .beat => 1
  | .sub => 2
  | .count => 3
  | .warn => 4

def Result.code : Result → Nat
  | .done => 0
  | .takenIn => 1
  | .noChange => 2
  | .busy => 3
  | .notOwner => 4
  | .claimedElsewhere => 5
  | .badTable => 6
  | .badIndex => 7
  | .badOrder => 8
  | .badValue => 9
  | .lowerPriority => 10
  | .notExpected => 11
  | .tooLong => 12
  | .stored => 13
  | .unchanged => 14
  | .verifyFailed => 15

def NoticeKind.code : NoticeKind → Fin 8
  | .sceneEntered => 0
  | .changeSuperseded => 1
  | .changeRefused => 2
  | .transport => 3
  | .module_ => 4
  | .clockSource => 5
  | .flagRaised => 6
  | .claim => 7

/-- The role a port expects its partner to offer, by its code (R166, 12.2): 1 KEYBOARD, 2 SOUND MODULE, 3 IN-EAR,
4 CONSOLE, 5 TIMING SOURCE. OFF expects none. -/
def Role.expected : Role → Nat
  | .off => 0
  | .controller => 1
  | .modulePort => 2
  | .band => 3
  | .console => 4
  | .timing => 5

/-! ### Frames sent -/

/-- Kind codes (12.2). -/
def Frame.kind : Frame → Nat
  | .ident _ => 0
  | .keyDown .. => 1
  | .keyUp .. => 2
  | .pressure .. => 3
  | .control .. => 4
  | .preset .. => 6
  | .clock => 7
  | .transport _ => 8
  | .click .. => 10
  | .cue .. => 11
  | .reply .. => 14
  | .notice .. => 15

/-- The slot field: 0 for a kind that carries no slot, the result code for a REPLY (R197, 12.1). -/
def Frame.slot : Frame → Nat
  | .keyDown slot .. | .keyUp slot .. | .pressure slot .. | .control slot .. | .preset slot .. => slot
  | .reply _ _ r _ => r.code
  | .ident _ | .clock | .transport _ | .click .. | .cue .. | .notice .. => 0

/-- Payload words (12.2), unused bits 0 (R198). -/
def Frame.payload : Frame → List Word
  | .ident offered => [word Config.familyCode, word Config.revision, word offered]
  | .keyDown _ key strike | .keyUp _ key strike | .pressure _ key strike => [word key, word strike]
  | .control _ controller value => [word controller, word value]
  | .preset _ bank pre => [word bank, word pre]
  | .clock => []
  | .transport start => [word (bitAt start 0)]
  | .click accent bar beat => [word (accent.code + at_ beat 8), word bar]
  | .cue start number => [word (number + bitAt start 8)]
  | .reply kind tag _ data => word (at_ kind 8 + tag) :: data
  | .notice kind data => word kind.code.val :: data

/-- The header: kind x 4096 + n x 256 + slot x 8, the flag bits 0 (12.1, R197). -/
def Frame.header (f : Frame) : Word := word (at_ f.kind 12 + at_ f.payload.length 8 + at_ f.slot 3)

/-- The check word: 65535 less the sum of the words before it, modulo 65536 (12.1). -/
def checkWord (ws : List Word) : Word := word (65535 - (ws.map BitVec.toNat).sum % 65536)

/-- A frame's words in the order they leave. -/
def Frame.words (f : Frame) : List Word :=
  let ws := f.header :: f.payload
  ws ++ [checkWord ws]

/-- A frame occupies the transmitter for (n + 2) x 10 µs (R164). -/
def Frame.duration (f : Frame) : Nat := (f.payload.length + 2) * Config.wordTime

/-! ### Words on the line (R196) -/

/-- The parity of the bits of a word-type bit and 16 data bits. -/
def parityOf (isFrame : Bool) (d : Word) : Bool :=
  (List.range 16).foldl (fun acc i => acc != d.getLsbD i) isFrame

/-- The 20 bits of a word, the first sent at bit 19: start bit 0, word-type bit, data bits 15 to 0, parity, stop bit 1. -/
def lineWord (isFrame : Bool) (d : Word) : BitVec 20 :=
  0#1 ++ BitVec.ofBool isFrame ++ d ++ BitVec.ofBool (parityOf isFrame d) ++ 1#1

/-- A well-framed word as its word-type bit and data; none where it is badly framed (R196). -/
def readLine (w : BitVec 20) : Option (Bool × Word) :=
  let isFrame := w.getLsbD 18
  let d : Word := (w >>> 2).setWidth 16
  if w.getLsbD 19 = false ∧ w.getLsbD 0 = true ∧ w.getLsbD 1 = parityOf isFrame d ∧ (isFrame = true ∨ d = 0) then
    some (isFrame, d)
  else none

/-! ### From received words to commands -/

/-- The words of a complete frame sum to 65535 modulo 65536, the check word included (R168). -/
def checkHolds (ws : List Word) : Bool := (ws.map BitVec.toNat).sum % 65536 == 65535

/-- A REQUEST's row by its kind code, tag and words from 2 on (12.3). Kinds 12 and 17 name their row in word 2; where that
word is missing or its code names none, the row is UNKNOWN_REQUEST (DEDUCED, log 19). -/
def requestCommand (p : Port) (w1 : Word) (args : List Word) : Instr :=
  let tag : Byte := w1.setWidth 8
  let unknown : Instr := .unknownRequest p ((w1 >>> 8).setWidth 8) tag
  match field w1 15 8 with
  | 0 => .claim p tag args
  | 1 => .release p tag
  | 2 => .loadBegin p tag args
  | 3 => .loadData p tag args
  | 4 => .loadRun p tag args
  | 5 => .read p tag args
  | 6 => .readNotes p tag args
  | 7 => .readBlackBox p tag
  | 8 => .status p tag
  | 9 => .portStatus p tag args
  | 10 => .commit p tag
  | 11 => .select p tag args
  | 12 => match args with
    | w2 :: _ => match field w2 1 0 with
      | 0 => .transportStart p tag
      | 1 => .transportStop p tag
      | 2 => .transportToStart p tag
      | _ => unknown
    | [] => unknown
  | 13 => .tempoSet p tag args
  | 14 => .tempoClear p tag
  | 15 => .takeOut p tag args
  | 16 => .returnModule p tag args
  | 17 => match args with
    | w2 :: _ => match field w2 2 0 with
      | 0 => .clearFlags p tag
      | 1 => .clearPeaks p tag
      | 2 => .clearBlackBox p tag
      | 3 => .clearModule p tag ((w2 >>> 8).setWidth 4)
      | 4 => .clearCounts p tag ((w2 >>> 8).setWidth 4)
      | _ => unknown
    | [] => unknown
  | 18 => .noticeMask p tag args
  | 19 => .panic p tag
  | 20 => .restart p tag
  | _ => unknown

/-- The row of a frame that passed the check, by its kind and payload (12.2, R198): a payload shorter than the kind's
layout, a kind no port accepts, and a coded field that names nothing are UNEXPECTED_FRAME. Whether the port's phase and
role accept the kind is decided by the row's meaning (R170). Flag bits are not read, nor is a slot (R197). -/
def frameCommand (wait : Nat) (p : Port) (header : Word) (payload : List Word) : Instr :=
  match field header 15 12, payload with
  | 0, _ :: _ :: w :: _ => .ident wait p (w.setWidth 3)
  | 1, w1 :: w2 :: _ => .keyDown p (w1.setWidth 7) (w2.setWidth 10)
  | 2, w1 :: w2 :: _ => .keyUp p (w1.setWidth 7) (w2.setWidth 10)
  | 3, w1 :: w2 :: _ => .pressure p (w1.setWidth 7) (w2.setWidth 10)
  | 4, w1 :: w2 :: _ => .control p (w1.setWidth 8) (w2.setWidth 10)
  | 5, w1 :: _ => .sustain p (w1.setWidth 10)
  | 7, _ => .sourceClock wait p
  | 8, w1 :: _ => match field w1 1 0 with
    | 0 => .transportStopFrame p
    | 1 => .transportStartFrame p
    | _ => .unexpectedFrame p
  | 9, w1 :: w2 :: _ => .positionFrame p (w1.setWidth 14) (w2.setWidth 4)
  | 12, w1 :: _ => match field w1 1 0 with
    | 0 => .presenceReady wait p
    | 1 => .presenceSettling wait p
    | 2 => .presenceFault wait p
    | _ => .unexpectedFrame p
  | 13, w1 :: args => requestCommand p w1 args
  | _, _ => .unexpectedFrame p

/-- A complete frame's words, check word last, as a command: FRAME_FAULT where the check fails (R168). -/
def completeFrame (wait : Nat) (p : Port) (ws : List Word) : Instr :=
  match ws with
  | header :: rest => if checkHolds ws then frameCommand wait p header rest.dropLast else .frameFault wait p
  | [] => .frameFault wait p

/-- What a port's receiver keeps between words: consecutive well-framed words, held at 8, and whether carrier is present
(R164); the moment the last well-framed word ended; whether the word before was an idle word; and the words of the frame
being assembled (R168). Moments are in µs. -/
structure Receiver where
  run : Nat
  carrier : Bool
  lastGood : Nat
  afterIdle : Bool
  words : List Word
  deriving DecidableEq, Repr

/-- A receiver that has seen nothing. -/
def Receiver.reset : Receiver := { run := 0, carrier := false, lastGood := 0, afterIdle := false, words := [] }

/-- A receiver at a moment: carrier is lost when 50 µs have passed with no well-framed word, and must be gained anew by 8
consecutive ones (R164). A frame cut off by the loss is discarded and not counted (R168). Without carrier a silence changes
nothing, and the count of well-framed words goes on over it (DEDUCED, log 25). -/
def Receiver.listen (r : Receiver) (now : Nat) (p : Port) : Receiver × List Instr :=
  if r.carrier = true ∧ r.lastGood + Config.carrierTime ≤ now then (.reset, [.carrierLost p]) else (r, [])

/-- A well-framed word that ended now: carrier becomes present after 8 consecutive ones (R164). Before carrier is present a
silence between words does not break the 8 (DEDUCED, log 25). -/
def Receiver.good (r : Receiver) (now : Nat) (p : Port) : Receiver × List Instr :=
  let run := min 8 (r.run + 1)
  ({ r with run := run, carrier := r.carrier || run == 8, lastGood := now },
    if run = 8 ∧ r.carrier = false then [.carrierPresent p] else [])

/-- One 20-bit word that ended now, at a receiver that has carrier or not (R164, R168): a frame begins with a header after an
idle word and is complete after n payload words and one check word; an idle word or a badly framed word before that is a
frame fault. `assembles` says that the port is in IDENT, REFUSED or UP; a frame under way stays under way when the port moves
from one of these to another (DEDUCED, log 25). -/
def Receiver.hear (r : Receiver) (assembles : Bool) (now wait : Nat) (p : Port) (w : BitVec 20) : Receiver × List Instr :=
  let cut : List Instr := if r.words = [] then [] else [.frameFault wait p]
  match readLine w with
  | none => ({ r with run := 0, afterIdle := false, words := [] }, cut)
  | some (false, _) =>
    let x := r.good now p
    ({ x.1 with afterIdle := true, words := [] }, x.2 ++ cut)
  | some (true, d) =>
    let x := r.good now p
    let words :=
      if !assembles then []
      else if r.words = [] then (if r.afterIdle then [d] else [])
      else r.words ++ [d]
    let whole := match words with
      | header :: _ => words.length == field header 11 8 + 2
      | [] => false
    ({ x.1 with afterIdle := false, words := if whole then [] else words },
      x.2 ++ if whole then [completeFrame wait p words] else [])

/-- One word at a port's receiver: what it keeps, and the commands it gives (log 25). A silence of 50 µs before the word is
heard first. -/
def Receiver.take (r : Receiver) (assembles : Bool) (now wait : Nat) (p : Port) (w : BitVec 20) : Receiver × List Instr :=
  let x := r.listen now p
  let y := x.1.hear assembles now wait p w
  (y.1, x.2 ++ y.2)

end Sys2Proof.Machine
end

