-- ==== Sys2Proof/Machine/Flags.lean ====
section
/-!
DEFINITION. Offers to the output queues (R171), the sticky health flags (R194), notices (R195, 12.4), replies (R179), and
the words of STATUS that notices share (12.5).
-/

namespace Sys2Proof.Machine

/-! ### The flag set (R194) -/

/-- The flags in the order of R194, which is the order of their bits and numbers (12.4, 12.5). -/
def Flag.number : Flag → Nat
  | .storeInvalid => 0
  | .commitFailed => 1
  | .noteTableFull => 2
  | .queueOverflow => 3
  | .forcedRelease => 4
  | .steal => 5
  | .clockSourceLost => 6

def Flags.has (f : Flags) : Flag → Bool
  | .storeInvalid => f.storeInvalid
  | .commitFailed => f.commitFailed
  | .noteTableFull => f.noteTableFull
  | .queueOverflow => f.queueOverflow
  | .forcedRelease => f.forcedRelease
  | .steal => f.steal
  | .clockSourceLost => f.clockSourceLost

def Flags.add (f : Flags) : Flag → Flags
  | .storeInvalid => { f with storeInvalid := true }
  | .commitFailed => { f with commitFailed := true }
  | .noteTableFull => { f with noteTableFull := true }
  | .queueOverflow => { f with queueOverflow := true }
  | .forcedRelease => { f with forcedRelease := true }
  | .steal => { f with steal := true }
  | .clockSourceLost => { f with clockSourceLost := true }

/-- The flag set as a number, STORE INVALID in bit 0 (12.5). -/
def Flags.value (f : Flags) : Nat :=
  bitAt f.storeInvalid 0 + bitAt f.commitFailed 1 + bitAt f.noteTableFull 2 + bitAt f.queueOverflow 3
    + bitAt f.forcedRelease 4 + bitAt f.steal 5 + bitAt f.clockSourceLost 6

def ResetCause.code : ResetCause → Nat
  | .powerOn => 0
  | .resetLine => 1
  | .restart => 2

/-- STATUS word 2 (12.5). -/
def Part.flagWord (s : Part) : Word := word (s.console.flags.value + at_ s.console.cause.code 8)

/-! ### Offers, notices, flags -/

/-- The UP CONSOLE ports whose mask enables a notice kind, in port number order (R195). -/
def Part.hears (s : Part) (k : NoticeKind) (p : Port) : Bool :=
  s.upAs p .console && s.console.masks[p].getLsbD k.code.val

/-- A notice offered without raising QUEUE OVERFLOW where a queue is full (R194, last paragraph). -/
def Part.noticeQuiet (s : Part) (k : NoticeKind) (data : List Word) : Part :=
  (allPorts.filter (s.hears k)).foldl (fun t p => (t.enqueue p { frame := .notice k data, entry := none }).1) s

/-- A flag that is not raised becomes raised, and the FLAG RAISED notice is offered; a raised one stays so (R194). `tell`
is how the notice is offered. Its word 3 is STATUS word 2 whole, the reset cause among its bits (DEDUCED, log 34). -/
def Part.raiseWith (tell : Part → NoticeKind → List Word → Part) (s : Part) (f : Flag) : Part :=
  if s.console.flags.has f then s
  else
    let t := { s with console := { s.console with flags := s.console.flags.add f } }
    tell t .flagRaised [word f.number, t.flagWord]

/-- QUEUE OVERFLOW is raised: its own notice raises nothing further (R194). -/
def Part.raiseOverflow (s : Part) : Part := s.raiseWith Part.noticeQuiet .queueOverflow

/-- A block offers a frame to a port's output queue (R171): whether it joined, and QUEUE OVERFLOW where the port is UP and
its queue is full. -/
def Part.offerItem (s : Part) (p : Port) (it : QueueItem) : Part × Bool :=
  match s.enqueue p it with
  | (t, true) => (t, true)
  | (t, false) => if s.isUp p then (t.raiseOverflow, false) else (t, false)

/-- A frame that names no note-table entry is offered. -/
def Part.offer (s : Part) (p : Port) (f : Frame) : Part := (s.offerItem p { frame := f, entry := none }).1

/-- A notice is offered to every UP CONSOLE port whose mask enables its kind, in port number order (R195). -/
def Part.notice (s : Part) (k : NoticeKind) (data : List Word) : Part :=
  (allPorts.filter (s.hears k)).foldl (fun t p => t.offer p (.notice k data)) s

/-- A flag is raised by its event (R194). -/
def Part.raise (s : Part) (f : Flag) : Part := s.raiseWith Part.notice f

/-- The one REPLY of a request (R179): `kind` and `tag` as received. -/
def Part.reply (s : Part) (p : Port) (kind : Nat) (tag : Byte) (r : Result) (data : List Word := []) : Part :=
  s.offer p (.reply kind tag.toNat r data)

/-! ### STATUS words that notices share (12.4, 12.5) -/

def Transport.code : Transport → Nat
  | .stopped => 0
  | .countingIn _ => 1
  | .running => 2

def FollowState.code : FollowState → Nat
  | .waiting => 0
  | .following => 1
  | .holdover => 2

/-- Tempo source state (R95, 12.5): MAP, OVERRIDE, WAITING, FOLLOWING, HOLDOVER. -/
def Part.tempoSourceCode (s : Part) : Nat :=
  if s.tempo.followSong then 2 + s.tempo.follow.code
  else if s.tempo.override.isSome then 1
  else 0

/-- STATUS words 3 to 6. -/
def Part.transportWords (s : Part) : List Word :=
  [ word (s.tempo.transport.code + at_ s.tempoSourceCode 2 + at_ s.tempo.numerator 8
      + at_ (Nat.log2 s.tempo.denominator) 12)
  , word s.tempo.bar
  , word (at_ s.tempo.beat 8 + s.tempo.tick)
  , word s.effectiveTempo ]

/-- STATUS words 7 and 8: a position, a song and scene or none, and a generation number. -/
def placeWords (position : Nat) (place : Option Place) (gen : Nat) : List Word :=
  match place with
  | some pl => [word (position + at_ pl.song.val 8), word (gen + at_ pl.scene.val 8)]
  | none => [word (position + at_ 127 8), word (gen + at_ 15 8)]

/-- STATUS words 9 and 10: a pending change, or zeros for none. -/
def pendingWords : Option PendingChange → List Word
  | none => [0, 0]
  | some r =>
    let common := at_ r.priority 12 + at_ r.boundary.code 10
    match r.target with
    | .song i none => [word (at_ 1 14 + common + at_ 15 6 + i), word r.boundary.bar]
    | .song i (some sc) => [word (at_ 1 14 + common + at_ sc.val 6 + i), word r.boundary.bar]
    | .scene sc => [word (at_ 2 14 + common + at_ sc.val 6), word r.boundary.bar]
    | .reload => [word (at_ 3 14 + common), word r.boundary.bar]

/-- A source's code: its class in bits 1-0 and its trigger or port in bits 7-4 (12.4). -/
def Source.code : Source → Nat
  | .pedal t => at_ t.val 4
  | .console p => 1 + at_ p.val 4
  | .cue => 2

/-- A port or none in four bits, 15 for none (12.4, 12.5). -/
def portCode : Option Port → Nat
  | some p => p.val
  | none => 15

/-- A TRANSPORT notice (R100, 12.4). -/
def Part.transportNotice (s : Part) : Part := s.notice .transport s.transportWords

end Sys2Proof.Machine
end

