-- ==== Sys2Proof/Machine/Click.lean ====
section
/-!
DEFINITION. CLICK (chapter 6): clicks to BAND ports, the cue one-shot, CLOCK and TRANSPORT frames to MODULE ports.
-/

namespace Sys2Proof.Machine

/-! ### Clicks (R115 to R119) -/

/-- The BAND fields of a port in UP under that role. -/
def Part.bandFields (s : Part) (p : Port) : Option BandFields :=
  if s.isUp p then
    match s.port p with
    | .band b => some b
    | .off | .controller | .modulePort _ | .console _ | .timing _ => none
  else none

/-- Whether a BAND port with these fields is muted (R115). -/
def Part.muted (s : Part) (b : BandFields) : Bool :=
  b.mute || s.click.cueMute || s.click.heldMutes.toList.any id

/-- One CLICK frame to each UP, unmuted BAND port for which `accent` gives one, in port number order. -/
def Part.clickBands (s : Part) (accent : BandFields → Option Accent) (bar beat : Nat) : Part :=
  allPorts.foldl (fun t p =>
    match s.bandFields p with
    | none => t
    | some b => if s.muted b then t else
      match accent b with
      | none => t
      | some a => t.offer p (.click a bar beat)) s

/-- The WARN test (R117): a request that R82 takes at the next bar start. -/
def Part.warns (s : Part) : Bool :=
  match s.setlist.pending with
  | none => false
  | some r => match r.boundary with
    | .nextBar => true
    | .atBar b => b ≤ min 9999 (s.tempo.bar + 1)
    | .immediate | .nextBeat => false

/-- The click of a beat start (R116). -/
def Part.clickBeat (s : Part) : Part :=
  let warn := s.warns
  s.clickBands (fun b => some <|
    if s.tempo.beat = 1 then .downbeat
    else if s.tempo.beat = s.tempo.numerator ∧ b.warn = true ∧ warn = true then .warn
    else .beat) s.tempo.bar s.tempo.beat

/-- SUB clicks of a tick (R118). -/
def Part.clickSub (s : Part) : Part :=
  s.clickBands (fun b =>
    if 2 ≤ b.subdivision ∧ s.tempo.tick ≠ 0 ∧ s.tempo.tick % (48 / b.subdivision) = 0 then some .sub else none)
    s.tempo.bar s.tempo.beat

/-- The COUNT click of a count beat (R119). -/
def Part.clickCount (s : Part) (c : CountState) : Part :=
  s.clickBands (fun _ => some .count) ((c.beat - 1) / c.numerator + 1)
    (c.beat - c.numerator * ((c.beat - 1) / c.numerator))

/-! ### The cue one-shot (R121, R122) -/

/-- A CUE frame to every BAND port in UP, muted or not, in port number order. -/
def Part.cueBands (s : Part) (start : Bool) (number : Nat) : Part :=
  (allPorts.filter fun p => s.upAs p .band).foldl (fun t p => t.offer p (.cue start number)) s

/-- The cue that sounds, if any, is stopped (R122). -/
def Part.stopCue (s : Part) : Part :=
  match s.click.cue with
  | none => s
  | some c =>
    let t := s.cueBands false c.number
    { t with click := { t.click with cue := none } }

/-- A cue starts (R121): the sounding one is stopped first. -/
def Part.startCue (s : Part) (number width : Nat) : Part :=
  let t := s.stopCue.cueBands true number
  { t with click := { t.click with cue := some { number := number, timer := t.inMs width } } }

/-! ### CLOCK and TRANSPORT (R123, R124) -/

/-- The divisor, in ticks, of a MODULE port in UP that is clocked. -/
def Part.clockTicks (s : Part) (p : Port) : Option Nat :=
  if s.upAs p .modulePort then (s.moduleFields p).divisor.ticks else none

def Part.setStarted (s : Part) (p : Port) (b : Bool) : Part :=
  { s with click := { s.click with started := upd s.click.started p fun _ => b } }

/-- TRANSPORT START to one port: started is yes unless the queue refused it (R124, R125). -/
def Part.startPort (s : Part) (p : Port) : Part :=
  let r := s.offerItem p { frame := .transport true, entry := none }
  r.1.setStarted p r.2

/-- A change into RUNNING reaches CLICK (R124). -/
def Part.clickRunning (s : Part) : Part :=
  (allPorts.filter fun p => (s.clockTicks p).isSome).foldl Part.startPort s

/-- A change into STOPPED reaches CLICK (R100, R122, R124). -/
def Part.clickStopped (s : Part) : Part :=
  let t := (allPorts.filter fun p => (s.clockTicks p).isSome).foldl (fun t p => t.offer p (.transport false)) s
  { t with click := { t.click with started := Vector.replicate 12 false } }.stopCue

/-- A CLOCK to one port, with a TRANSPORT START before it where started is no (R124). -/
def Part.clockPort (s : Part) (p : Port) : Part :=
  (if s.click.started[p] then s else s.startPort p).offer p .clock

/-- The CLOCK frames of a tick (R123). -/
def Part.clockModules (s : Part) : Part :=
  (allPorts.filter fun p => match s.clockTicks p with
    | some d => s.tempo.tick % d == 0
    | none => false).foldl Part.clockPort s

/-- A tick in RUNNING reaches CLICK: CLOCK frames, SUB clicks, and on tick 0 the click of the beat start. -/
def Part.clickTick (s : Part) : Part :=
  let t := s.clockModules.clickSub
  if s.tempo.tick = 0 then t.clickBeat else t

/-! ### Pedal mutes and the drain end (R115, R126) -/

def Part.setHeldMute (s : Part) (i : Trigger) (b : Bool) : Part :=
  { s with click := { s.click with heldMutes := upd s.click.heldMutes i fun _ => b } }

def Part.setCueMute (s : Part) (b : Bool) : Part := { s with click := { s.click with cueMute := b } }

/-- CLICK's reset at the drain end (R126): the held pedal mutes are kept. -/
def Part.resetClick (s : Part) : Part :=
  let t := s.stopCue
  { t with click := { t.click with cueMute := false, started := Vector.replicate 12 false } }

end Sys2Proof.Machine
end

