-- ==== Sys2Proof/Machine/Notes.lean ====
section
/-!
DEFINITION. NOTES (chapter 2): the note table, the kept count, sustain, steals, deferral, releases and moves.
-/

namespace Sys2Proof.Machine

/-! ### Entries -/

/-- SOUNDING or SUSTAINED. -/
def Entry.rings (e : Entry) : Bool :=
  match e.state with
  | .sounding | .sustained => true
  | .deferred | .owed .. => false

def Entry.isDeferred (e : Entry) : Bool :=
  match e.state with
  | .deferred => true
  | .sounding | .sustained | .owed .. => false

def Entry.isSounding (e : Entry) : Bool :=
  match e.state with
  | .sounding => true
  | .deferred | .sustained | .owed .. => false

def Entry.isSustained (e : Entry) : Bool :=
  match e.state with
  | .sustained => true
  | .deferred | .sounding | .owed .. => false

def Entry.isOwed (e : Entry) : Bool :=
  match e.state with
  | .owed .. => true
  | .deferred | .sounding | .sustained => false

/-- Counted in the kept count: DEFERRED, SOUNDING or SUSTAINED (R23). -/
def Entry.counted (e : Entry) : Bool := !e.isOwed

/-- The entry is for this destination, slot and sent key. -/
def Entry.plays (e : Entry) (d : Port) (slot key : Nat) : Bool := e.dest == d && e.slot == slot && e.key == key

/-- A SOUNDING or SUSTAINED entry becomes RELEASE OWED; another is unchanged (R21). -/
def Entry.release (cause : Cause) (strike : Nat) (e : Entry) : Entry :=
  if e.rings then { e with state := .owed cause strike } else e

def Part.setEntries (s : Part) (es : List Entry) : Part := { s with notes := { s.notes with entries := es } }

/-- The kept count of a port (R23). -/
def Part.kept (s : Part) (p : Port) : Nat := s.notes.entries.countP fun e => e.dest == p && e.counted

/-- How many DEFERRED entries a port has. -/
def Part.deferredCount (s : Part) (p : Port) : Nat := s.notes.entries.countP fun e => e.dest == p && e.isDeferred

/-- The present kept count is offered to WATCH, which keeps the peak (R23, R157). -/
def Part.offerKept (s : Part) (p : Port) : Part := s.updModule p fun m => { m with peak := max m.peak (s.kept p) }

/-- PRIOR becomes EMPTY where no entry carries its number any more (R25, R50). -/
def Part.settlePrior (s : Part) : Part :=
  match s.scene.prior with
  | none => s
  | some g =>
    if s.notes.entries.any fun e => e.gen == g.number then s
    else { s with scene := { s.scene with prior := none } }

/-- The entries that `keep` refuses leave the table (R25). -/
def Part.keepEntries (s : Part) (keep : Entry → Bool) : Part :=
  (s.setEntries (s.notes.entries.filter keep)).settlePrior

/-- The entries `which` picks are changed. -/
def Part.mapEntries (s : Part) (which : Entry → Bool) (f : Entry → Entry) : Part :=
  s.setEntries (s.notes.entries.map fun e => if which e then f e else e)

/-- The SOUNDING and SUSTAINED entries that `which` picks become RELEASE OWED with release strike 0. -/
def Part.releaseEntries (s : Part) (cause : Cause) (which : Entry → Bool) : Part :=
  s.mapEntries which (Entry.release cause 0)

/-- The DEFERRED entries that `which` picks are deleted. -/
def Part.deleteDeferred (s : Part) (which : Entry → Bool) : Part :=
  s.keepEntries fun e => !(e.isDeferred && which e)

/-- The zone of an entry, in its own generation copy (R1, R14). -/
def Part.zoneOf (s : Part) (e : Entry) : Option ZoneRecord :=
  let inCopy (g : Option Generation) : Option ZoneRecord :=
    match g with
    | some g => if g.number = e.gen then g.zones[e.zone]? else none
    | none => none
  match inCopy s.scene.current with
  | some z => some z
  | none => inCopy s.scene.prior

/-! ### Creating entries (R24, R31, R32, R48) -/

/-- An entry joins the young end of the table. -/
def Part.addEntry (s : Part) (e : Entry) : Part :=
  ({ s with notes := { s.notes with entries := s.notes.entries ++ [e], nextName := s.notes.nextName + 1 } }).offerKept
    e.dest

/-- Whether a RESTART drain is in progress. -/
def Part.draining (s : Part) : Bool := s.console.drain.isSome

/-- The KEY DOWN frame of an entry (R24). -/
def Entry.downItem (e : Entry) : QueueItem :=
  { frame := .keyDown e.slot e.key e.strike, entry := some e.name }

/-- The new entry of an item, DEFERRED, with a name of its own (log 14). -/
def Part.entryOf (s : Part) (p : Port) (k : Nat) (it : ResultItem) : Entry :=
  { name := s.notes.nextName, srcPort := p, srcKey := k, gen := it.gen, zone := it.zone, dest := it.dest,
    slot := it.slot, key := it.key, strike := it.strike, state := .deferred, pending := false }

/-- An entry is created SOUNDING with its KEY DOWN offered; a full queue leaves it uncreated (R24), and no kept count is
offered to the peak for it (DEDUCED, log 13). During a drain it becomes RELEASE OWED (RESTART) at once (R48). -/
def Part.createSounding (s : Part) (e : Entry) : Part :=
  match s.offerItem e.dest e.downItem with
  | (t, false) => t
  | (t, true) =>
    let u := t.addEntry { e with state := .sounding, pending := true }
    if u.draining then u.releaseEntries .restart fun x => x.name == e.name else u

/-- A port's oldest DEFERRED entry is deleted and its defer-overflow count rises (R32). -/
def Part.deferOverflow (s : Part) (d : Port) : Part :=
  match s.notes.entries.find? fun e => e.dest == d && e.isDeferred with
  | none => s
  | some v =>
    let t := s.keepEntries fun e => e.name != v.name
    { t with notes := { t.notes with deferOverflow := upd t.notes.deferOverflow d (bump 65535) } }

/-- An entry is created DEFERRED, after the capacity check of R32. -/
def Part.createDeferred (s : Part) (e : Entry) : Part :=
  (if s.deferredCount e.dest = Config.deferLimit then s.deferOverflow e.dest else s).addEntry
    { e with state := .deferred, pending := false }

/-! ### Key-down (R26 to R32) -/

/-- The retrigger step (R26). -/
def Part.retrigger (s : Part) (p : Port) (k : Nat) : Part :=
  let own (e : Entry) : Bool := e.srcPort == p && e.srcKey == k
  let current (e : Entry) : Bool := e.gen == s.currentNumber
  (s.deleteDeferred fun e => own e && current e).releaseEntries .retrigger fun e =>
    own e && (current e || e.isSounding)

/-- The collision step (R28). -/
def Part.collide (s : Part) (d : Port) (slot key : Nat) : Part :=
  (s.deleteDeferred fun e => e.plays d slot key).releaseEntries .collision fun e => e.plays d slot key

/-- The next victim of a steal on a port (R29). -/
def Part.victim (s : Part) (d : Port) : Option Entry :=
  let on (f : Entry → Bool) : Option Entry := s.notes.entries.find? fun e => e.dest == d && f e
  match on Entry.isSustained with
  | some e => some e
  | none =>
    match on fun e => e.isSounding && e.gen != s.currentNumber with
    | some e => some e
    | none =>
      match on Entry.isSounding with
      | some e => some e
      | none => on Entry.isDeferred

/-- One steal on a port (R29): a DEFERRED victim is deleted, another becomes RELEASE OWED. No flag. -/
def Part.steal (s : Part) (d : Port) (cause : Cause) : Part :=
  match s.victim d with
  | none => s
  | some v =>
    if v.isDeferred then s.keepEntries fun e => e.name != v.name
    else s.releaseEntries cause fun e => e.name == v.name

/-- The budget step (R29). -/
def Part.budgetStep (s : Part) (d : Port) : Part :=
  if s.kept d = (s.moduleFields d).voiceBudget then (s.steal d .stolen).raise .steal else s

/-- The create step (R31, R48). -/
def Part.createItem (s : Part) (p : Port) (k : Nat) (it : ResultItem) : Part :=
  let e := s.entryOf p k it
  if s.isSettling it.dest then (if s.draining then s else s.createDeferred e) else s.createSounding e

/-- An item that is not skipped: collision, budget, table-full and create steps (R28 to R31). -/
def Part.takeItem (s : Part) (p : Port) (k : Nat) (it : ResultItem) : Part :=
  let t := (s.collide it.dest it.slot it.key).budgetStep it.dest
  if Config.tableSize ≤ t.notes.entries.length then t.raise .noteTableFull else t.createItem p k it

/-- The items of a result list in order; one equal in destination, slot and sent key to an earlier one is skipped (R27). -/
def Part.takeItems (s : Part) (p : Port) (k : Nat) : List ResultItem → List (Port × Nat × Nat) → Part
  | [], _ => s
  | it :: rest, seen =>
    if seen.contains (it.dest, it.slot, it.key) then s.takeItems p k rest seen
    else (s.takeItem p k it).takeItems p k rest ((it.dest, it.slot, it.key) :: seen)

/-- A key-down as ZONE hands it over (R26 to R32). -/
def Part.noteDown (s : Part) (p : Port) (k : Nat) (items : List ResultItem) : Part :=
  (s.retrigger p k).takeItems p k items []

/-! ### Sustain (R34 to R36) -/

/-- Whether a port's sustain state is down (R34). -/
def Part.sustainDown (s : Part) (p : Port) : Bool :=
  s.notes.sustainFrame[p] || s.notes.holds.toList.any fun h =>
    match h with
    | some h => h.port == p && !h.disregarded
    | none => false

/-- The sustain lift (R35). -/
def Part.sustainLift (s : Part) (p : Port) : Part :=
  s.releaseEntries .sustainLift fun e => e.isSustained && e.srcPort == p

/-- A change of a port's sustain parts, with the lift it makes where the state goes from down to up (R34). -/
def Part.changeSustain (s : Part) (p : Port) (f : NotesState → NotesState) : Part :=
  let t := { s with notes := f s.notes }
  if s.sustainDown p && !t.sustainDown p then t.sustainLift p else t

/-- A SUSTAIN event (R14, R34). -/
def Part.sustainEvent (s : Part) (p : Port) (v : Nat) : Part :=
  s.changeSustain p fun n => { n with sustainFrame := upd n.sustainFrame p fun _ => decide (512 ≤ v) }

/-- A pedal SUSTAIN trigger fires (R34). -/
def Part.sustainHold (s : Part) (i : Trigger) (p : Port) : Part :=
  s.changeSustain p fun n => { n with holds := upd n.holds i fun _ => some { port := p, disregarded := false } }

/-- A pedal SUSTAIN trigger's level action ends (R34). -/
def Part.sustainRelease (s : Part) (i : Trigger) : Part :=
  match s.notes.holds[i] with
  | none => s
  | some h => s.changeSustain h.port fun n => { n with holds := upd n.holds i fun _ => none }

/-- A port's sustain state is cleared, without a lift (R36). -/
def Part.clearSustain (s : Part) (p : Port) : Part :=
  { s with
    notes := { s.notes with
      sustainFrame := upd s.notes.sustainFrame p fun _ => false
      holds := s.notes.holds.map fun h =>
        match h with
        | some h => some (if h.port = p then { h with disregarded := true } else h)
        | none => none } }

/-- The sustain state of every CONTROLLER port is cleared (R36). -/
def Part.clearSustains (s : Part) : Part :=
  (allPorts.filter fun p => s.role p == .controller).foldl Part.clearSustain s

/-- A port newly given the CONTROLLER role: the frame part is up and no trigger is disregarded (R36). -/
def Part.freshSustain (s : Part) (p : Port) : Part :=
  { s with
    notes := { s.notes with
      sustainFrame := upd s.notes.sustainFrame p fun _ => false
      holds := s.notes.holds.map fun h =>
        match h with
        | some h => some (if h.port = p then { h with disregarded := false } else h)
        | none => none } }

/-! ### Key-up (R33) -/

/-- What a key-up makes of one entry of its key that is not DEFERRED. -/
def Part.keyUpEntry (s : Part) (r : Nat) (e : Entry) : Entry :=
  if e.isSounding then
    let follows := match s.zoneOf e with
      | some z => z.sustainFollow
      | none => false
    if follows && s.sustainDown e.srcPort then { e with state := .sustained }
    else { e with state := .owed .keyUp r }
  else e

/-- A key-up as ZONE hands it over (R33). -/
def Part.noteUp (s : Part) (p : Port) (k r : Nat) : Part :=
  let own (e : Entry) : Bool := e.srcPort == p && e.srcKey == k
  let t := s.mapEntries own (s.keyUpEntry r)
  t.deleteDeferred own

/-! ### Releases of many entries (R37 to R40, R48) -/

/-- Every ringing entry is released with a cause, every DEFERRED one deleted, and every sustain state cleared. -/
def Part.releaseAll (s : Part) (cause : Cause) : Part :=
  ((s.releaseEntries cause fun _ => true).deleteDeferred fun _ => true).clearSustains

/-- PANIC (R37). -/
def Part.panic (s : Part) : Part := (s.releaseAll .panic).stopCue

/-- A CONTROLLER port leaves UP (R38). -/
def Part.sourceLost (s : Part) (p : Port) : Part :=
  ((s.releaseEntries .sourceLost fun e => e.srcPort == p).deleteDeferred fun e => e.srcPort == p).clearSustain p

/-- Every entry destined to a port is taken out without release (R39). -/
def Part.removeDest (s : Part) (p : Port) : Part := s.keepEntries fun e => e.dest != p

/-- `n` steals with cause BUDGET CUT. -/
def Part.cuts (s : Part) (p : Port) : Nat → Part
  | 0 => s
  | n + 1 => (s.steal p .budgetCut).cuts p n

/-- A voice budget lowered below the kept count by a load (R40). -/
def Part.budgetCut (s : Part) (p : Port) (budget : Nat) : Part :=
  if budget < s.kept p then (s.cuts p (s.kept p - budget)).raise .steal else s

/-! ### Settle end and failover (R42 to R44) -/

/-- One DEFERRED entry is sent (R42). -/
def Part.sendEntry (s : Part) (name : Nat) : Part :=
  match s.notes.entries.find? fun e => e.name == name && e.isDeferred with
  | none => s
  | some e =>
    let t := s.releaseEntries .collision fun x => x.plays e.dest e.slot e.key
    match t.offerItem e.dest e.downItem with
    | (u, true) => u.mapEntries (fun x => x.name == name) fun x => { x with state := .sounding, pending := true }
    | (u, false) => u.keepEntries fun x => x.name != name

/-- The names of a port's entries of one state, in creation order. -/
def Part.namesOn (s : Part) (p : Port) (f : Entry → Bool) : List Nat :=
  (s.notes.entries.filter fun e => e.dest == p && f e).map Entry.name

/-- A module's DEFERRED entries are sent, in creation order (R42). -/
def Part.sendDeferred (s : Part) (p : Port) : Part := (s.namesOn p Entry.isDeferred).foldl Part.sendEntry s

/-- Restrike copies, for entries of the lost module, until a step stops it (R43). -/
def Part.restrikeCopies (s : Part) (b : Port) : List Entry → Part
  | [] => s
  | e :: rest =>
    let t := s.collide b e.slot e.key
    if t.kept b = (t.moduleFields b).voiceBudget then t
    else if Config.tableSize ≤ t.notes.entries.length then t.raise .noteTableFull
    else
      let copy := { e with name := t.notes.nextName, dest := b }
      if e.gen = t.currentNumber ∧ t.isSettling b = true then
        if t.deferredCount b = Config.deferLimit then t
        else (t.addEntry { copy with state := .deferred, pending := false }).restrikeCopies b rest
      else (t.createSounding copy).restrikeCopies b rest

/-- The restrike of X's SOUNDING entries onto B (R43). -/
def Part.restrike (s : Part) (x b : Port) : Part :=
  s.restrikeCopies b (s.notes.entries.filter fun e => e.dest == x && e.isSounding)

/-- One DEFERRED entry moves to B, or is deleted (R44). The peak is offered the kept count that the whole move leaves, and no
count from before the deletions it makes (DEDUCED, log 13). -/
def Part.moveEntry (b : Port) (s : Part) (name : Nat) : Part :=
  match s.notes.entries.find? fun e => e.name == name && e.isDeferred with
  | none => s
  | some e =>
    let t := s.keepEntries fun x => !(x.isDeferred && x.plays b e.slot e.key)
    if t.kept b = (t.moduleFields b).voiceBudget ∨ t.deferredCount b = Config.deferLimit then
      t.keepEntries fun x => x.name != name
    else (t.mapEntries (fun x => x.name == name) fun x => { x with dest := b }).offerKept b

/-- X's DEFERRED entries are deleted or moved, and its ringing entries released (R44). -/
def Part.moveAndRelease (s : Part) (x : Port) (sub : Option Port) : Part :=
  let t := match sub with
    | none => s.deleteDeferred fun e => e.dest == x
    | some b =>
      let names := s.namesOn x Entry.isDeferred
      let u := names.foldl (Part.moveEntry b) s
      if u.isSettling b then u else names.foldl Part.sendEntry u
  t.releaseEntries .moduleOut fun e => e.dest == x

/-! ### Owed releases and passing (R45, R24, R174) -/

/-- The oldest ready owed release of a port (R45). -/
def Part.nextRelease (s : Part) (p : Port) : Option Entry :=
  s.notes.entries.find? fun e => e.dest == p && e.isOwed && !e.pending

/-- The release strike of an entry: present in RELEASE OWED, 0 elsewhere (R21, 12.3). -/
def Entry.releaseStrike (e : Entry) : Nat :=
  match e.state with
  | .owed _ r => r
  | .deferred | .sounding | .sustained => 0

/-- The KEY UP frame of an entry (R45). -/
def Entry.upFrame (e : Entry) : Frame := .keyUp e.slot e.key e.releaseStrike

/-- An entry's KEY UP is passed: it leaves the table (R25). -/
def Part.passUp (s : Part) (e : Entry) : Part := s.keepEntries fun x => x.name != e.name

/-- The KEY DOWN of a queued item is passed or withdrawn: key-down pending becomes no (R173, R174). -/
def Part.clearPending (s : Part) (it : QueueItem) : Part :=
  match it.entry with
  | none => s
  | some n => s.mapEntries (fun e => e.name == n) fun e => { e with pending := false }

/-- Whether a queued item is a KEY DOWN. -/
def QueueItem.isDown (it : QueueItem) : Bool :=
  match it.frame with
  | .keyDown .. => true
  | .ident _ | .keyUp .. | .pressure .. | .control .. | .preset .. | .clock | .transport _ | .click .. | .cue ..
  | .reply .. | .notice .. => false

/-- The KEY DOWN frames waiting in a port's queue are withdrawn (R174). -/
def Part.withdraw (s : Part) (p : Port) : Part :=
  let removed := (s.link p).queue.filter QueueItem.isDown
  removed.foldl Part.clearPending (s.updLink p fun l => { l with queue := l.queue.filter fun it => !it.isDown })

/-! ### READ NOTES (R46, 12.3) -/

def Cause.code : Cause → Nat
  | .keyUp => 0
  | .sustainLift => 1
  | .retrigger => 2
  | .collision => 3
  | .stolen => 4
  | .forced => 5
  | .panic => 6
  | .sourceLost => 7
  | .moduleOut => 8
  | .budgetCut => 9
  | .restart => 10

def EntryState.code : EntryState → Nat
  | .deferred => 0
  | .sounding => 1
  | .sustained => 2
  | .owed c _ => 3 + c.code

/-- The four words of a READ NOTES entry (12.3). -/
def Entry.toWords (e : Entry) : List Word :=
  [ word (at_ e.srcPort.val 12 + at_ e.zone 8 + bitAt e.pending 7 + e.srcKey)
  , word (at_ e.gen 8 + at_ e.dest.val 4 + e.state.code)
  , word (at_ e.slot 11 + at_ (e.releaseStrike / 512) 10 + e.strike)
  , word (at_ e.key 9 + e.releaseStrike % 512) ]

/-- The data of a READ NOTES reply (R46). -/
def Part.readNotesWords (s : Part) (start : Nat) : List Word :=
  [word s.notes.entries.length, word start] ++ ((s.notes.entries.drop start).take 3).flatMap Entry.toWords

end Sys2Proof.Machine
end

