-- ==== Sys2Proof/Machine/Zone.lean ====
section
/-!
DEFINITION. ZONE (chapter 1): the strike and key transforms, destinations, and the routing of key, pressure and control
events.
-/

namespace Sys2Proof.Machine

/-! ### The strike transform (R9) -/

/-- The curve output of an input strike through nine points. -/
def Curve.apply (c : Curve) (s : Nat) : Int :=
  let i := s / 128
  let f := s - 128 * i
  let a : Int := c.toList.getD i 0
  let b : Int := c.toList.getD (i + 1) 0
  a + ((b - a) * f + 64) / 128

/-- The curve stage: index 8 is the identity curve. -/
def Part.curveOutput (s : Part) (index strike : Nat) : Int :=
  match s.tables.curves.toList[index]? with
  | some c => c.apply strike
  | none => strike

/-- The sent strike of a zone for an input strike: curve, gain with offset, clamp. -/
def Part.sentStrike (s : Part) (z : ZoneRecord) (strike : Nat) : Nat :=
  (clampInt 1 1023 ((s.curveOutput z.curve strike * z.gain + 32) / 64 + z.offset)).toNat

/-! ### The key transform (R10) -/

/-- A transposed key folded into 0-127: the nearest key of the same name, counting from the edge that was crossed. -/
def foldKey (k : Int) : Int :=
  if k < 0 then k % 12
  else if 127 < k then 116 + (k - 116) % 12
  else k

/-- The sent key, none where the zone drops it. -/
def ZoneRecord.sentKey (z : ZoneRecord) (key : Nat) : Option Nat :=
  let k : Int := (key : Int) + z.transpose
  if 0 ≤ k ∧ k ≤ 127 then some k.toNat
  else if z.fold then some (foldKey k).toNat
  else none

/-! ### Matching and destinations (R8, R11, R12) -/

/-- The zone listens to a port. -/
def ZoneRecord.hears (z : ZoneRecord) (p : Port) : Bool := z.sources.getLsbD p.val

/-- The source, key and strike tests of R8. -/
def ZoneRecord.covers (z : ZoneRecord) (p : Port) (key strike : Nat) : Bool :=
  z.hears p && z.keyLow ≤ key && key ≤ z.keyHigh && z.strikeLow ≤ strike && strike ≤ z.strikeHigh

/-- A destination port as it resolves now; none where it resolves to nothing (R11, R56). -/
def Part.resolve (s : Part) (d : Nat) : Option Port :=
  match portOf d with
  | none => none
  | some p =>
    if s.role p = .modulePort then (if s.isActive p then some p else s.substitute p) else none

/-- The item one zone contributes to a key-down, if any. -/
def Part.zoneItem (s : Part) (gen : Nat) (p : Port) (key strike : Nat) (z : ZoneRecord) (i : Nat) : Option ResultItem :=
  if z.covers p key strike then
    match z.sentKey key, s.resolve z.port with
    | some k, some d =>
      some { zone := i, gen := gen, dest := d, slot := z.slot, key := k, strike := s.sentStrike z strike }
    | _, _ => none
  else none

/-- The zone result list of a key-down (R12). -/
def Part.zoneResult (s : Part) (p : Port) (key strike : Nat) : List ResultItem :=
  match s.scene.current with
  | none => []
  | some g => g.zones.zipIdx.filterMap fun (z, i) => s.zoneItem g.number p key strike z i

/-- KEY DOWN at ZONE (R7): a strike of 0 is taken as 1. -/
def Part.zoneKeyDown (s : Part) (p : Port) (key strike : Nat) : Part :=
  s.noteDown p key (s.zoneResult p key (max 1 strike))

/-! ### Pressure (R15) -/

/-- Whether an entry takes a pressure of a key. -/
def Part.takesPressure (s : Part) (p : Port) (key : Nat) (e : Entry) : Bool :=
  e.srcPort == p && e.srcKey == key && e.isSounding &&
    match s.zoneOf e with
    | some z => z.pressurePass
    | none => false

/-- PRESSURE at ZONE (R15). -/
def Part.zonePressure (s : Part) (p : Port) (key v : Nat) : Part :=
  (s.notes.entries.filter (s.takesPressure p key)).foldl (fun t e => t.offer e.dest (.pressure e.slot e.key v)) s

/-! ### Controls (R16 to R18) -/

/-- The control filter (R18). -/
def ZoneRecord.passes (z : ZoneRecord) (n : Nat) : Bool :=
  match z.filterMode with
  | .all => true
  | .none_ | .reserved => false
  | .list => ([z.list0, z.list1, z.list2, z.list3].take z.listCount).contains n

/-- A PRIOR zone owns an entry in SOUNDING or SUSTAINED (R16). -/
def Part.ownsRinging (s : Part) (gen i : Nat) : Bool :=
  s.notes.entries.any fun e => e.gen == gen && e.zone == i && e.rings

/-- The candidate zones of a CONTROL event (R16). -/
def Part.controlCandidates (s : Part) (p : Port) (n : Nat) : List ZoneRecord :=
  let current := match s.scene.current with
    | some g => g.zones.filter fun z => z.hears p && z.passes n
    | none => []
  let prior := match s.scene.prior with
    | some g => (g.zones.zipIdx.filter fun (z, i) => z.hears p && z.passes n && s.ownsRinging g.number i).map Prod.fst
    | none => []
  current ++ prior

/-- The distinct (port, slot) pairs, each at its first occurrence (R17). -/
def distinct : List (Port × Nat) → List (Port × Nat)
  | [] => []
  | x :: rest => x :: (distinct rest).filter fun y => y != x

/-- CONTROL at ZONE (R17). -/
def Part.zoneControl (s : Part) (p : Port) (n v : Nat) : Part :=
  let pairs := (s.controlCandidates p n).filterMap fun z => (s.resolve z.port).map fun d => (d, z.slot)
  (distinct pairs).foldl (fun t (d, slot) => t.offer d (.control slot n v)) s

end Sys2Proof.Machine
end

