-- ==== Sys2Proof/Machine/Scene.lean ====
section
/-!
DEFINITION. SCENE (chapter 3): settles and preset sends. Scene entry stands in Sys2Proof/Machine/SceneEntry.lean, after
WATCH, whose returns it makes.
-/

namespace Sys2Proof.Machine

/-! ### Settle (R61 to R66) -/

def Part.setSettle (s : Part) (p : Port) (v : Option Settle) : Part :=
  { s with scene := { s.scene with settle := upd s.scene.settle p fun _ => v } }

/-- A settle begins or restarts (R62). -/
def Part.beginSettle (s : Part) (p : Port) : Part :=
  s.setSettle p (some { seen := false, timer := s.inMs (s.moduleFields p).settleLimit })

/-- A settle is abandoned, without settle end (R66). -/
def Part.abandonSettle (s : Part) (p : Port) : Part := s.setSettle p none

/-- A settle ends: the module's DEFERRED entries are sent (R65). -/
def Part.endSettle (s : Part) (p : Port) : Part := (s.setSettle p none).sendDeferred p

/-- WATCH passes a READY or a SETTLING to SCENE (R63). -/
def Part.settleReport (s : Part) (p : Port) (ready : Bool) : Part :=
  match s.scene.settle[p] with
  | none => s
  | some st =>
    if st.seen then (if ready then s.endSettle p else s)
    else if ready then s
    else s.setSettle p (some { st with seen := true })

/-- A settle timer runs out in SETTLING (R64). -/
def Part.expireSettle (s : Part) (p : Port) : Part :=
  let t := { s with scene := { s.scene with expiries := upd s.scene.expiries p (bump 65535) } }
  t.endSettle p

/-! ### Preset sends (R56, R60) -/

/-- One PRESET frame is offered, and the module's settle begins or restarts, refused or not (R58, R60, R62). -/
def Part.sendPreset (s : Part) (d : Port) (e : PresetEntry) : Part :=
  (s.offer d (.preset e.slot e.bank e.preset)).beginSettle d

/-- CURRENT's preset copies. -/
def Part.currentPresets (s : Part) : List PresetEntry :=
  match s.scene.current with
  | some g => g.presets
  | none => []

/-- A preset send with resolved module `m` and named port `n` (R60). -/
def Part.presetSend (s : Part) (m n : Port) : Part :=
  (s.currentPresets.filter fun e => e.port == n.val).foldl (fun t e => t.sendPreset m e) s

/-- The presets of a scene entry, each resolved as it is taken (R56). -/
def Part.resolvePresets (s : Part) : Part :=
  s.currentPresets.foldl (fun t e =>
    match t.resolve e.port with
    | some d => t.sendPreset d e
    | none => t) s

/-- A port newly MODULE, or no longer so: NOT SETTLING, no expiries counted (R70). -/
def Part.freshSettle (s : Part) (p : Port) : Part :=
  let t := s.setSettle p none
  { t with scene := { t.scene with expiries := upd t.scene.expiries p fun _ => 0 } }

end Sys2Proof.Machine
end

