-- ==== Sys2Proof/Machine/Watch.lean ====
section
/-!
DEFINITION. WATCH (chapter 8): presence, departures and failover, recovery and return, the substitution map, the black
box.
-/

namespace Sys2Proof.Machine

/-! ### Codes and words (12.4, 12.5) -/

def PresenceState.code : PresenceState → Nat
  | .absent => 0
  | .active => 1
  | .out => 2
  | .recovering => 3
  | .cooldown => 4
  | .waiting => 5
  | .barred => 6

/-- The out states (R138). -/
def PresenceState.isOut : PresenceState → Bool
  | .out | .recovering | .cooldown | .waiting | .barred => true
  | .absent | .active => false

def Reason.code : Reason → Nat
  | .linkDown => 0
  | .presenceTimeout => 1
  | .faultReported => 2
  | .commanded => 3

/-- The set of one reason. -/
def Reasons.only : Reason → Reasons
  | .linkDown => { Reasons.empty with linkDown := true }
  | .presenceTimeout => { Reasons.empty with presenceTimeout := true }
  | .faultReported => { Reasons.empty with faultReported := true }
  | .commanded => { Reasons.empty with commanded := true }

/-- A reason joins a set. -/
def Reasons.add (r : Reasons) : Reason → Reasons
  | .linkDown => { r with linkDown := true }
  | .presenceTimeout => { r with presenceTimeout := true }
  | .faultReported => { r with faultReported := true }
  | .commanded => { r with commanded := true }

def Reasons.isEmpty (r : Reasons) : Bool :=
  !r.linkDown && !r.presenceTimeout && !r.faultReported && !r.commanded

/-- A reason set with reason k in bit 9 + k (12.4). -/
def Reasons.value (r : Reasons) : Nat :=
  bitAt r.linkDown 9 + bitAt r.presenceTimeout 10 + bitAt r.faultReported 11 + bitAt r.commanded 12

/-- PORT STATUS word 6 (12.5). -/
def Presence.word6 (m : Presence) : Word :=
  let last := match m.lastReason with
    | some r => r.code
    | none => 7
  word (at_ m.state.code 13 + m.reasons.value + at_ last 6 + m.loss)

/-- A MODULE notice after a change of state (R158, 12.4). -/
def Part.moduleNotice (s : Part) (p : Port) (old : PresenceState) : Part :=
  s.notice .module_ [word (p.val + at_ old.code 4), (s.module p).word6, word (portCode (s.substitute p))]

/-! ### The substitution map (R137, R143, R144) -/

/-- The port a backup field names (R137): 12 to 15 name none. -/
def ModuleFields.backup (m : ModuleFields) : Option Port := if m.backupNone then none else portOf m.backupPort

/-- Whether a backup is eligible for a module (R137). -/
def Part.eligible (s : Part) (x b : Port) : Bool :=
  b != x && s.role b == .modulePort && s.isActive b && (s.substitute b).isNone

/-- A MODULE port in an out state. -/
def Part.isOut (s : Part) (x : Port) : Bool := s.role x == .modulePort && (s.module x).state.isOut

/-- The substitute test of a departure or of a new backup (R143, R144): an eligible backup is recorded and sent the
module's presets. -/
def Part.recordBackup (s : Part) (x : Port) : Part :=
  match (s.moduleFields x).backup with
  | none => s.setSubstitute x none
  | some b => if s.eligible x b then (s.setSubstitute x (some b)).presetSend b x else s.setSubstitute x none

/-- Whether an out module gains `b` as substitute when `b` becomes ACTIVE (R144). -/
def Part.gains (s : Part) (b x : Port) : Bool :=
  x != b && s.isOut x && (s.moduleFields x).backup == some b && (s.substitute x).isNone

/-- A module that has become ACTIVE is recorded for the out modules it backs, in port number order (R140, R144). The
preset sends are not asked for at a return within a scene entry. -/
def Part.standIn (s : Part) (b : Port) (send : Bool) : Part :=
  allPorts.foldl (fun t x =>
    if t.gains b x then
      let u := t.setSubstitute x (some b)
      if send then u.presetSend b x else u
    else t) s

/-- Every module standing behind `x` loses it (R142, R161). -/
def Part.dropSubstitute (s : Part) (x : Port) : Part :=
  { s with watch := { s.watch with map := s.watch.map.map fun b => if b = some x then none else b } }

/-! ### Departures (R141, R142, R145, R156) -/

/-- The record of a departure (R141). -/
def Presence.departed (m : Presence) (flapLimit : Nat) (r : Reason) : Presence :=
  let loss := if r = .commanded then m.loss else m.loss + 1
  let barred := r ≠ .commanded ∧ loss = flapLimit
  { m with
    state := if barred then .barred else .out
    reasons := if barred then .empty else .only r
    lastReason := some r
    loss := loss
    steadyTimer := none
    presenceTimer := if r = .linkDown then none else m.presenceTimer }

/-- The black box is latched if it is empty (R156). -/
def Part.latch (s : Part) (x : Port) (r : Reason) : Part :=
  match s.watch.blackBox with
  | some _ => s
  | none =>
    let box : BlackBox :=
      { port := x, reason := r, barred := (s.module x).state == .barred, position := s.setlist.position,
        place := s.setlist.place, bar := s.tempo.bar, beat := s.tempo.beat, tempo := s.effectiveTempo,
        transport := s.tempo.transport.code, entries := s.notes.entries.length, time := s.ms }
    { s with watch := { s.watch with blackBox := some box } }

/-- The failover treatment (R145). -/
def Part.failover (s : Part) (x : Port) : Part :=
  let sub := s.substitute x
  let t := match sub with
    | some b => if (s.moduleFields x).restrikeHeld then s.restrike x b else s
    | none => s
  t.moveAndRelease x sub

/-- The departure of an ACTIVE module (R142). A LINK DOWN departure finds the link no longer UP. -/
def Part.depart (s : Part) (x : Port) (r : Reason) : Part :=
  let s1 := (s.updModule x fun m => m.departed (s.moduleFields x).flapLimit r).latch x r
  let s2 := (if s1.isUp x then s1.withdraw x else s1).abandonSettle x
  let s3 := ((s2.dropSubstitute x).recordBackup x).failover x
  let s4 := if r = .linkDown then s3.removeDest x else s3
  s4.moduleNotice x (s.module x).state

/-! ### Hold-out reasons (R146) -/

/-- RECOVERING, COOLDOWN and WAITING go back to OUT with one reason (R146). -/
def Part.backToOut (s : Part) (x : Port) (r : Reason) : Part :=
  (s.updModule x fun m =>
    { m with state := .out, reasons := .only r, lastReason := some r, cooldownTimer := none, progress := 0 }).moduleNotice
    x (s.module x).state

/-- A reason is raised in an out state other than BARRED (R146), and in ACTIVE a departure is made (R141). -/
def Part.raiseReason (s : Part) (x : Port) (r : Reason) : Part :=
  match (s.module x).state with
  | .active => s.depart x r
  | .out => s.updModule x fun m => { m with reasons := m.reasons.add r }
  | .recovering | .cooldown | .waiting => s.backToOut x r
  | .absent | .barred => s

/-- Reasons are removed in OUT; an empty set makes the module RECOVERING (R146). -/
def Part.dropReasons (s : Part) (x : Port) (f : Reasons → Reasons) : Part :=
  if (s.module x).state = .out then
    let t := s.updModule x fun m => { m with reasons := f m.reasons }
    if (t.module x).reasons.isEmpty then
      (t.updModule x fun m => { m with state := .recovering, progress := 0 }).moduleNotice x .out
    else t
  else s

/-! ### Return (R149 to R152) -/

/-- A module returns to ACTIVE (R152); `atScene` for a return made within a scene entry. -/
def Part.returnActive (s : Part) (x : Port) (atScene : Bool) : Part :=
  let t := (s.setSubstitute x none).updModule x fun m =>
    { m with state := .active, reasons := .empty, progress := 0,
             steadyTimer := some (s.inMs ((s.moduleFields x).steadyPeriod * 1000)) }
  let u := if atScene then t else t.presetSend x x
  (u.standIn x (!atScene)).moduleNotice x (s.module x).state

/-- WAITING is entered; with policy IMMEDIATE the module returns at once (R150, R151). -/
def Part.enterWaiting (s : Part) (x : Port) : Part :=
  let t := (s.updModule x fun m => { m with state := .waiting, cooldownTimer := none }).moduleNotice x (s.module x).state
  if (s.moduleFields x).returnPolicy = .immediate then t.returnActive x false else t

/-- COOLDOWN is entered; a cooldown of 0 goes on to WAITING within the event (R149, R150). -/
def Part.enterCooldown (s : Part) (x : Port) : Part :=
  let c := (s.moduleFields x).cooldown
  let t := (s.updModule x fun m =>
    { m with state := .cooldown, cooldownTimer := if c = 0 then none else some (s.inMs c) }).moduleNotice x
      (s.module x).state
  if c = 0 then t.enterWaiting x else t

/-- A READY in RECOVERING (R149). -/
def Part.recover (s : Part) (x : Port) : Part :=
  let t := s.updModule x fun m => { m with progress := bump 8 m.progress }
  if (s.moduleFields x).recoveryCount ≤ (t.module x).progress then t.enterCooldown x else t

/-- The returns of a scene entry, in port number order (R55, R151). -/
def Part.sceneReturns (s : Part) (isSong : Bool) : Part :=
  allPorts.foldl (fun t x =>
    let due := match (t.moduleFields x).returnPolicy with
      | .nextScene => true
      | .nextSong => isSong
      | .immediate => false
    if t.role x = .modulePort ∧ (t.module x).state = .waiting ∧ due = true then t.returnActive x true else t) s

/-! ### PRESENCE frames (R139, R140, R146, R157) -/

/-- A presence status (12.2). -/
inductive Status where
  | ready | settling | fault
  deriving DecidableEq, Repr

/-- The gap and the last presence time of a frame (R140, R157). -/
def Part.markPresence (s : Part) (x : Port) : Part :=
  s.updModule x fun m =>
    let worst := match m.lastTime with
      | some t => if m.state = .absent then m.worstGap else max m.worstGap (min 65535 (s.ms - t))
      | none => m.worstGap
    { m with worstGap := worst, lastTime := some s.ms }

/-- The presence timer is started or restarted at the presence timeout (R139). -/
def Part.startPresence (s : Part) (x : Port) : Part :=
  s.updModule x fun m => { m with presenceTimer := some (s.inMs (s.moduleFields x).presenceTimeout) }

/-- A frame restarts the presence timer unless the state is ABSENT or BARRED (R139). -/
def Part.restartPresence (s : Part) (x : Port) : Part :=
  if (s.module x).state = .absent ∨ (s.module x).state = .barred then s else s.startPresence x

/-- A module becomes ACTIVE from ABSENT (R140). -/
def Part.becomeActive (s : Part) (x : Port) (ready : Bool) : Part :=
  let t := (s.updModule x fun m =>
    { m with state := .active, reasons := .empty,
             steadyTimer := some (s.inMs ((s.moduleFields x).steadyPeriod * 1000)) }).startPresence x
  (((t.settleReport x ready).presetSend x x).standIn x true).moduleNotice x .absent

/-- What a READY or SETTLING does in each state, before it is passed to SCENE (R146, R149, R150, R151). -/
def Part.goodPresence (s : Part) (x : Port) (ready : Bool) : Part :=
  match (s.module x).state with
  | .out =>
    if ready then s.dropReasons x fun r => { r with presenceTimeout := false, faultReported := false }
    else s.dropReasons x fun r => { r with faultReported := false }
  | .recovering => if ready then s.recover x else s
  | .active | .cooldown | .waiting | .absent | .barred => s

/-- A PRESENCE frame from a MODULE port in UP. -/
def Part.presenceFrame (s : Part) (x : Port) (st : Status) : Part :=
  let t := s.markPresence x
  match (s.module x).state, st with
  | .absent, .fault => t
  | .absent, .ready => t.becomeActive x true
  | .absent, .settling => t.becomeActive x false
  | .active, .fault => (t.startPresence x).raiseReason x .faultReported
  | _, .fault => (t.raiseReason x .faultReported).restartPresence x
  | _, .ready => ((t.goodPresence x true).restartPresence x).settleReport x true
  | _, .settling => ((t.goodPresence x false).restartPresence x).settleReport x false

/-! ### The link of a MODULE port (R139, R146, R157, R175, R176) -/

/-- The link has left UP. -/
def Part.moduleLinkLost (s : Part) (x : Port) : Part :=
  (s.raiseReason x .linkDown).updModule x fun m => { m with presenceTimer := none, lastTime := none }

/-- The link has gone UP. -/
def Part.moduleLinkUp (s : Part) (x : Port) : Part :=
  (s.dropReasons x fun r => { r with linkDown := false }).restartPresence x

/-! ### Requests (R147, R148, R153, R157) -/

/-- TAKE OUT of a MODULE port (R147). -/
def Part.takeOutModule (s : Part) (x : Port) (duration : Nat) : Part × Result :=
  match (s.module x).state with
  | .absent => (s, .notExpected)
  | .barred => (s, .noChange)
  | .active | .out | .recovering | .cooldown | .waiting =>
    ((s.raiseReason x .commanded).updModule x fun m =>
      { m with commandedTimer := if duration = 0 then none else some (s.inMs duration) }, .done)

/-- RETURN of a MODULE port (R148). -/
def Part.returnCommanded (s : Part) (x : Port) : Part × Result :=
  if (s.module x).reasons.commanded then
    ((s.updModule x fun m => { m with commandedTimer := none }).dropReasons x fun r => { r with commanded := false },
      .done)
  else (s, .noChange)

/-- CLEAR MODULE of a MODULE port (R153). -/
def Part.clearLoss (s : Part) (x : Port) : Part :=
  if (s.module x).state = .barred then
    let r : Reason := if s.isUp x then .presenceTimeout else .linkDown
    (s.updModule x fun m =>
      { m with loss := 0, state := .out, reasons := .only r, lastReason := some r, presenceTimer := none }).moduleNotice
      x .barred
  else s.updModule x fun m => { m with loss := 0 }

/-- CLEAR PEAKS (R157). -/
def Part.clearPeaksAll (s : Part) : Part :=
  (allPorts.filter fun p => s.role p == .modulePort).foldl (fun t p =>
    t.updModule p fun m => { m with peak := s.kept p, worstGap := 0 }) s

/-! ### Loads, role changes, resets (R144, R151, R155, R159 to R161) -/

/-- A load changes a module's backup (R144): `old` is the record before the write. -/
def Part.changeBackup (s : Part) (x : Port) (old : ModuleFields) : Part :=
  let new := (s.moduleFields x).backup
  if old.backup = new then s
  else
    let t := if (s.substitute x).isSome && s.substitute x != new then s.setSubstitute x none else s
    if t.isOut x && (t.substitute x).isNone then t.recordBackup x else t

/-- A load sets the return policy of a WAITING module to IMMEDIATE (R151). -/
def Part.changePolicy (s : Part) (x : Port) : Part :=
  if (s.module x).state = .waiting ∧ (s.moduleFields x).returnPolicy = .immediate then s.returnActive x false else s

/-- A load writes a flap limit (R155). -/
def Part.changeFlapLimit (s : Part) (x : Port) : Part :=
  let limit := (s.moduleFields x).flapLimit
  s.updModule x fun m =>
    if m.state = .barred then { m with loss := limit }
    else if limit ≤ m.loss then { m with loss := limit - 1 }
    else m

/-- A port leaves or takes the MODULE role: its record is discarded or fresh, and it stands in for none (R161). -/
def Part.freshModule (s : Part) (x : Port) : Part :=
  ((s.updModule x fun _ => .reset).setSubstitute x none).dropSubstitute x

/-- What WATCH keeps of a record at the drain end (R160). -/
def Presence.restarted (m : Presence) : Presence :=
  { Presence.reset with lastReason := m.lastReason, peak := m.peak, worstGap := m.worstGap }

/-- WATCH's reset at the drain end (R160), in port number order (DEDUCED, log 16). -/
def Part.resetWatch (s : Part) : Part :=
  let t := { s with watch := { s.watch with map := Vector.replicate 12 none } }
  (allPorts.filter fun p => s.role p == .modulePort).foldl (fun u p =>
    let v := u.updModule p Presence.restarted
    if (u.module p).state = .absent then v else v.moduleNotice p (u.module p).state) t

/-! ### READ BLACK BOX (12.5) -/

/-- The data of a READ BLACK BOX reply: the generation field is unused, the scene as STATUS word 8 has it. -/
def blackBoxWords : Option BlackBox → List Word
  | none => [0]
  | some b =>
    [word (2 ^ 15 + bitAt b.barred 14 + at_ b.reason.code 12 + b.port.val)]
      ++ placeWords b.position b.place 0
      ++ [ word b.bar, word (at_ b.beat 8), word b.tempo, word (b.transport + at_ b.entries 4), word (b.time / 65536)
         , word b.time ]

end Sys2Proof.Machine
end

