-- ==== Sys2Proof/Machine/SceneEntry.lean ====
section
/-!
DEFINITION. Scene entry (R41, R52 to R58) and the builds of CURRENT at start-up and at the drain end (R68, R69).
-/

namespace Sys2Proof.Machine

/-- The scene record of a song and a scene: index song x 8 + scene (R52, R74). -/
def Part.sceneRecord (s : Part) (pl : Place) : SceneRecord :=
  s.tables.scenes[pl.song.val * 8 + pl.scene.val]'(by omega)

/-- A generation built from the active position record (R54, R67). Whether it carries a song is read from that record and
not from the setlist: where a load has emptied the setlist and a song is still active, it is that song's scene (R75, R88;
DEDUCED, log 35). -/
def Part.build (s : Part) (number : Nat) : Generation :=
  match s.setlist.place with
  | some pl =>
    { number := number, position := s.setlist.position, place := some pl, zones := (s.sceneRecord pl).zones,
      presets := (s.sceneRecord pl).presets }
  | none => { number := number, position := s.setlist.position, place := none, zones := [], presets := [] }

/-- The entry belongs to a LIVE generation. -/
def Entry.isOf (e : Entry) : Option Generation → Bool
  | some g => e.gen == g.number
  | none => false

/-- Whether the forced release changes an entry (R41, R53). -/
def Part.forces (s : Part) : Bool := s.notes.entries.any fun e => e.isOf s.scene.prior && e.rings

/-- The table side of a scene entry (R41): the forced release, the deletion of CURRENT's DEFERRED entries, and the
re-marking of what is left of PRIOR. -/
def Part.shiftEntries (s : Part) : Part :=
  let kept := (s.notes.entries.map fun e => if e.isOf s.scene.prior then e.release .forced 0 else e).filter
    fun e => !e.isDeferred
  s.setEntries (kept.map fun e => { e with gen := s.currentNumber })

/-- The outgoing CURRENT becomes PRIOR where it owns an entry (R53), and the new CURRENT is built (R54). -/
def Part.shiftGenerations (s : Part) : Part :=
  let owned := s.notes.entries.any fun e => e.isOf s.scene.current
  { s with
    scene := { s.scene with
      prior := if owned then s.scene.current else none
      current := some (s.build ((s.currentNumber + 1) % 256)) } }

/-- A SCENE ENTERED notice (R57, 12.4). With PRIOR EMPTY the bits of its number are sent as 0 (DEDUCED, log 34). -/
def Part.sceneEntered (s : Part) (forced : Bool) : Part :=
  let prior := match s.scene.prior with
    | some g => g.number
    | none => 256
  match s.scene.current with
  | some g => s.notice .sceneEntered (placeWords g.position g.place g.number ++ [word (prior + bitAt forced 9)])
  | none => s

/-- Scene entry of the active position record (R52 to R57); `isSong` where it is part of a song entry. -/
def Part.sceneEntry (s : Part) (isSong : Bool) : Part :=
  let forced := s.forces
  let t := s.shiftEntries
  let u := if forced then t.raise .forcedRelease else t
  ((u.shiftGenerations.sceneReturns isSong).resolvePresets).sceneEntered forced

/-- The first CURRENT at start-up (R68). -/
def Part.firstScene (s : Part) : Part :=
  { s with scene := { s.scene with current := some (s.build 0), prior := none } }

/-- SCENE's reset at the drain end (R69): expiries are kept. -/
def Part.resetScene (s : Part) : Part :=
  ({ s with scene := { s.scene with settle := Vector.replicate 12 none } }).firstScene.sceneEntered false

end Sys2Proof.Machine
end

