-- ==== Sys2Proof/Machine/Transport.lean ====
section
/-!
DEFINITION. TEMPO's state changes (chapter 5) that SETLIST's work follows: ticks, the tempo map, start, stop, count-in
and the song's time. What a change owes SETLIST is answered as a `Due`.
-/

namespace Sys2Proof.Machine

/-- What TEMPO has handed to SETLIST and SETLIST has still to act on: nothing, a beat start in RUNNING (R84), or a count
beat (R83). -/
inductive Due where
  | nothing | beat | countBeat
  deriving DecidableEq, Repr

def Part.setTempo (s : Part) (f : TempoState → TempoState) : Part := { s with tempo := f s.tempo }

def Part.setTransport (s : Part) (t : Transport) : Part := s.setTempo fun x => { x with transport := t }

/-! ### The tempo map in force (R96) -/

/-- The entry in force for a bar: the one with the highest bar not above it. -/
def entryAt (map : List TempoEntry) (bar : Nat) : Option TempoEntry := (map.filter fun e => e.bar ≤ bar).getLast?

/-- The lookup for a bar, in the active song's record as stored now; none is made with song none. -/
def Part.lookup (s : Part) (bar : Nat) : Part :=
  match s.activeSong with
  | none => s
  | some r =>
    match entryAt r.tempoMap bar with
    | none => s
    | some e => s.setTempo fun x =>
      { x with mapTempo := e.tempo, numerator := e.numerator, denominator := e.denominator,
               firstTempo := match r.tempoMap.head? with
                 | some f => f.tempo
                 | none => e.tempo }

/-- A position set, with its lookup (R96). -/
def Part.setPosition (s : Part) (bar beat : Nat) : Part :=
  (s.setTempo fun x => { x with bar := bar, beat := beat, tick := 0 }).lookup bar

/-- The follow window is emptied, with the time of the last source CLOCK (R107, R108, R111). -/
def Part.emptyWindow (s : Part) : Part := s.setTempo fun x => { x with window := [], lastClock := none }

/-! ### Ticks (R93, R101, R102) -/

/-- The position as it stands is handed on as a tick (R93): a bar start makes its lookup, CLICK does its part, and a beat
start is due to SETLIST. -/
def Part.handTick (s : Part) : Part × Due :=
  let t := if s.tempo.tick = 0 ∧ s.tempo.beat = 1 then s.lookup s.tempo.bar else s
  (t.clickTick, if s.tempo.tick = 0 then .beat else .nothing)

/-- The position advances by one tick (R93). -/
def TempoState.advance (x : TempoState) : TempoState :=
  if x.tick < 47 then { x with tick := x.tick + 1 }
  else if x.beat < x.numerator then { x with tick := 0, beat := x.beat + 1 }
  else { x with tick := 0, beat := 1, bar := bump 9999 x.bar }

/-- The transport enters RUNNING (R97, R100, R102, R108, R124): reported to CLICK and CONSOLE. In FOLLOWING the source
timer starts at the length last computed (R111). -/
def Part.enterRunning (s : Part) : Part :=
  let t := s.setTempo fun x =>
    { x with transport := .running,
             sourceTimer := if s.sourceTicks then some (s.now + x.sourceLength) else x.sourceTimer }
  t.clickRunning.transportNotice

/-- RUNNING begins with the tick at the position as it stands (R97, R103, R108). -/
def Part.runFromHere (s : Part) : Part × Due :=
  (s.setTempo fun x => { x with acc := 0 }).enterRunning.handTick

/-- A count beat (R101): CLICK makes its COUNT click, and SETLIST is due. -/
def Part.handCount (s : Part) (c : CountState) : Part × Due := (s.clickCount c, .countBeat)

/-- One tick in COUNTING IN (R101), and the end of the count (R102). -/
def Part.countTick (s : Part) (c : CountState) : Part × Due :=
  if c.tick < 47 then (s.setTransport (.countingIn { c with tick := c.tick + 1 }), .nothing)
  else if c.beat < c.total then
    let c' := { c with tick := 0, beat := c.beat + 1 }
    (s.setTransport (.countingIn c')).handCount c'
  else s.enterRunning.handTick

/-- One tick, from the accumulator or from a source CLOCK (R93, R94). -/
def Part.tick (s : Part) : Part × Due :=
  match s.tempo.transport with
  | .stopped => (s, .nothing)
  | .countingIn c => s.countTick c
  | .running => (s.setTempo TempoState.advance).handTick

/-! ### Start and stop (R97 to R101) -/

/-- COUNTING IN begins (R101). A count that replaces a count changes no transport state, so no notice is made (R87,
R100). -/
def Part.beginCount (s : Part) : Part × Due :=
  let t := s.setPosition 1 1
  let c : CountState := { beat := 1, total := s.tempo.countInBars * t.tempo.numerator, tick := 0,
                          numerator := t.tempo.numerator }
  let u := (t.setTempo fun x => { x with transport := .countingIn c, acc := 0 }).handCount c
  match s.tempo.transport with
  | .countingIn _ => u
  | .stopped | .running => (u.1.transportNotice, u.2)

/-- START (R97). -/
def Part.start (s : Part) : Part × Due :=
  match s.tempo.transport with
  | .stopped =>
    if s.tempo.bar = 1 ∧ s.tempo.beat = 1 ∧ s.tempo.tick = 0 ∧ 0 < s.tempo.countInBars then s.beginCount
    else s.runFromHere
  | .countingIn _ | .running => (s, .nothing)

/-- The transport enters STOPPED from another state (R98, R100, R108): reported to CLICK and CONSOLE. -/
def Part.enterStopped (s : Part) : Part :=
  let t := s.setTempo fun x => { x with transport := .stopped, acc := 0 }
  let u := if s.tempo.followSong then t.emptyWindow.setTempo fun x => { x with sourceTimer := none } else t
  u.clickStopped.transportNotice

/-! ### Song entry (R87, R103) -/

/-- The song's time is reset (R103, steps 1 to 3). The start fields of the record are read here (R73, log 12). -/
def Part.resetSongTime (s : Part) : Part :=
  let follow := match s.activeSong with
    | some r => r.follow
    | none => false
  let bars := match s.activeSong with
    | some r => r.countInBars
    | none => 0
  let t := (s.setTempo fun x =>
    { x with override := none, lastTap := none, taps := [], followSong := follow, countInBars := bars,
             follow := .waiting, sourceTimer := none }).emptyWindow.setPosition 1 1
  if follow then t.setTempo fun x => { x with measured := x.firstTempo } else t

/-- RUNNING from bar 1 at a song entry; no change is reported where the transport was RUNNING (R103). -/
def Part.runFromBar1 (s : Part) : Part × Due :=
  match s.tempo.transport with
  | .running => (s.setTempo fun x => { x with acc := 0 }).handTick
  | .stopped | .countingIn _ => s.runFromHere

/-- STOPPED at a song entry; no change is reported where the transport was STOPPED (R103). -/
def Part.stopAtEntry (s : Part) : Part × Due :=
  match s.tempo.transport with
  | .stopped => (s.setTempo fun x => { x with acc := 0 }, .nothing)
  | .countingIn _ | .running => (s.enterStopped, .nothing)

/-- The transport at a song entry, by the start mode (R87); song none is as MANUAL (R86), and a FOLLOW song keeps it. -/
def Part.startByMode (s : Part) : Part × Due :=
  match s.activeSong with
  | none => s.stopAtEntry
  | some r =>
    if s.tempo.followSong then (s, .nothing)
    else match r.startMode with
      | .manual => s.stopAtEntry
      | .countIn => if 0 < s.tempo.countInBars then s.beginCount else s.runFromBar1
      | .continue_ =>
        match s.tempo.transport with
        | .stopped => s.stopAtEntry
        | .running => (s, .nothing)
        | .countingIn _ => s.runFromBar1

/-! ### The tempo override (R104 to R106) -/

/-- A tap at the present time, in a song that does not follow (R104, R105). -/
def Part.tap (s : Part) : Part :=
  if s.tempo.followSong then s
  else match s.tempo.lastTap with
    | none => s.setTempo fun x => { x with lastTap := some s.now, taps := [] }
    | some t0 =>
      let d := s.now - t0
      if d < 200000 then s
      else if 2000000 < d then s.setTempo fun x => { x with lastTap := some s.now, taps := [] }
      else
        let joined := s.tempo.taps ++ [d]
        let taps := joined.drop (joined.length - 8)
        let youngest := taps.drop (taps.length - s.tables.pedal.tapCount)
        s.setTempo fun x =>
          { x with lastTap := some s.now, taps := taps,
                   override := some (tempoOfInterval 6000000000 (average youngest)) }

/-- The override set or removed by the console, with the tap series emptied (R106). -/
def Part.setOverride (s : Part) (v : Option Nat) : Part :=
  s.setTempo fun x => { x with override := v, lastTap := none, taps := [] }

/-! ### Following (R107, R109, R111) -/

/-- The timing source: the lowest UP TIMING port. -/
def Part.bestSource (s : Part) : Option Port := allPorts.find? fun p => s.upAs p .timing

/-- The timing source is chosen anew; a change empties the follow window (R107). -/
def Part.chooseSource (s : Part) : Part :=
  if s.bestSource = s.tempo.source then s
  else s.emptyWindow.setTempo fun x => { x with source := s.bestSource }

/-- The follow window length of a TIMING port. -/
def Part.windowLength (s : Part) (p : Port) : Nat :=
  match s.port p with
  | .timing n => n
  | .off | .controller | .modulePort _ | .band _ | .console _ => 8

/-- A CLOCK SOURCE notice (R109, R111, 12.4). -/
def Part.clockSourceNotice (s : Part) : Part :=
  s.notice .clockSource
    [word s.tempo.follow.code, word s.tempo.measured, word s.tempo.bar, word (at_ s.tempo.beat 8 + s.tempo.tick)]

/-- The interval of a source CLOCK joins the window (R109, step 1). -/
def Part.joinWindow (s : Part) (p : Port) : Part :=
  match s.tempo.lastClock with
  | none => s.setTempo fun x => { x with lastClock := some s.now }
  | some t0 =>
    let joined := s.tempo.window ++ [s.now - t0]
    s.setTempo fun x =>
      { x with lastClock := some s.now, window := joined.drop (joined.length - s.windowLength p) }

/-- The measured tempo and the source timer's length (R109, steps 2 and 4), in STOPPED too (DEDUCED, log 27). An average of
0, for which the manual states no tempo, gives a free value within the range of every tempo (log 8). -/
def Part.measure (s : Part) : Part :=
  match s.tempo.window with
  | [] => s.setTempo fun x => { x with sourceLength := 8 * (125000000 / x.measured) }
  | w :: ws =>
    let avg := average (w :: ws)
    if avg = 0 then
      let r := s.freshValue
      r.2.setTempo fun x => { x with measured := clamp Config.tempoLow Config.tempoHigh r.1, sourceLength := 0 }
    else s.setTempo fun x => { x with measured := tempoOfInterval 125000000 avg, sourceLength := 8 * avg }

/-- The follow state at a source CLOCK (R109, step 3). -/
def Part.follow (s : Part) : Part :=
  let t := s.setTempo fun x => { x with follow := .following, acc := 0 }
  match s.tempo.follow with
  | .following => s
  | .waiting => t
  | .holdover => t.clockSourceNotice

/-- A source CLOCK in a FOLLOW song (R109). -/
def Part.sourceClockTaken (s : Part) (p : Port) : Part × Due :=
  let t := ((s.joinWindow p).measure).follow
  match t.tempo.transport with
  | .stopped => (t, .nothing)
  | .countingIn _ | .running =>
    (t.setTempo fun x => { x with sourceTimer := some (t.now + x.sourceLength) }).tick

/-- Holdover (R111). -/
def Part.holdover (s : Part) : Part :=
  let t := s.emptyWindow.setTempo fun x => { x with follow := .holdover, acc := 0, sourceTimer := none }
  t.clockSourceNotice.raise .clockSourceLost

/-! ### Resets (R112, R113) -/

/-- TEMPO's values at start-up and at the drain end, from the active position record; the timing source stays. -/
def Part.startTempo (s : Part) : Part :=
  let follow := match s.activeSong with
    | some r => r.follow
    | none => false
  let bars := match s.activeSong with
    | some r => r.countInBars
    | none => 0
  let t := (s.setTempo fun x => { TempoState.reset with source := x.source, followSong := follow,
                                                        countInBars := bars }).lookup 1
  t.setTempo fun x => { x with measured := x.mapTempo }

/-- TEMPO's reset at the drain end: a change into STOPPED is reported to CLICK and CONSOLE (R113). -/
def Part.resetTempo (s : Part) : Part :=
  let t := s.startTempo
  match s.tempo.transport with
  | .stopped => t
  | .countingIn _ | .running => t.clickStopped.transportNotice

end Sys2Proof.Machine
end

