-- ==== Sys2Proof/Machine/Setlist.lean ====
section
/-!
DEFINITION. SETLIST (chapter 4): change requests, the pending slot, taking, song entry, and the cue list.
-/

namespace Sys2Proof.Machine

/-! ### Reading the setlist (R71, R73) -/

def sceneNo (n : Nat) : SceneNo := ⟨n % 8, Nat.mod_lt _ (by decide)⟩

/-- How many songs the setlist holds. -/
def Part.songCount (s : Part) : Nat := s.tables.setlist.songs.length

/-- The song at a setlist position clamped to the list; none where the list is empty. -/
def Part.songAt (s : Part) (i : Nat) : Option SongNo :=
  s.tables.setlist.songs[clamp 0 (s.songCount - 1) i]?

/-- A scene number clamped to a song's scene count (R78, R85). -/
def Part.clampScene (s : Part) (n : SongNo) (x : Nat) : SceneNo := sceneNo (clamp 0 ((s.song n).sceneCount - 1) x)

/-- A song's first scene. -/
def Part.firstSceneOf (s : Part) (n : SongNo) : SceneNo := sceneNo (s.song n).firstScene

def Part.setPending (s : Part) (r : Option PendingChange) : Part :=
  { s with setlist := { s.setlist with pending := r } }

/-! ### Resolution (R78, R79) -/

/-- The position a pending SONG target names. -/
def Part.pendingSong (s : Part) : Option (Nat × Option SceneNo) :=
  match s.setlist.pending with
  | some { target := .song i sc, .. } => some (i, sc)
  | some { target := .scene _, .. } | some { target := .reload, .. } | none => none

/-- The scene a pending SCENE target names. -/
def Part.pendingScene (s : Part) : Option SceneNo :=
  match s.setlist.pending with
  | some { target := .scene sc, .. } => some sc
  | some { target := .song .., .. } | some { target := .reload, .. } | none => none

/-- NEXT SONG and PREV SONG: `move` steps the base position. -/
def Part.resolveSong (s : Part) (move : Nat → Nat) : Option Resolved :=
  if s.songCount = 0 then none
  else match s.setlist.place with
    | none => some (.song 0 none)
    | some _ =>
      let base := match s.pendingSong with
        | some (i, _) => i
        | none => s.setlist.position
      some (.song (clamp 0 (s.songCount - 1) (move base)) none)

/-- NEXT SCENE and PREV SCENE: `move` steps the base scene. -/
def Part.resolveScene (s : Part) (move : Nat → Nat) : Option Resolved :=
  match s.pendingSong with
  | some (i, sc) =>
    match s.songAt i with
    | none => none
    | some n =>
      let base := match sc with
        | some x => x
        | none => s.firstSceneOf n
      some (.song i (some (s.clampScene n (move base.val))))
  | none =>
    match s.setlist.place with
    | none => none
    | some pl =>
      let base := match s.pendingScene with
        | some x => x
        | none => pl.scene
      some (.scene (s.clampScene pl.song (move base.val)))

/-- A target as an absolute target; none is BAD INDEX (R78, R79). -/
def Part.resolveTarget (s : Part) (t : Target) : Option Resolved :=
  match t with
  | .songAt i => if s.songCount = 0 then none else some (.song (clamp 0 (s.songCount - 1) i) none)
  | .nextSong => s.resolveSong fun x => x + 1
  | .prevSong => s.resolveSong fun x => x - 1
  | .sceneAt sc =>
    match s.setlist.place with
    | none => none
    | some pl => some (.scene (s.clampScene pl.song sc))
  | .nextScene => s.resolveScene fun x => x + 1
  | .prevScene => s.resolveScene fun x => x - 1
  | .reload => some .reload

/-- The resolved target is the place the part is already at (R80). -/
def Part.alreadyAt (s : Part) (r : Resolved) : Bool :=
  match r, s.setlist.place with
  | .song i sc, some pl =>
    let scene := match sc with
      | some x => some x
      | none => (s.songAt i).map s.firstSceneOf
    i == s.setlist.position && scene == some pl.scene
  | .scene sc, some pl => sc == pl.scene
  | .song .., none | .scene _, none | .reload, _ => false

/-! ### Notices (R81, 12.4) -/

/-- CHANGE SUPERSEDED: the replaced request, and both sources. -/
def Part.superseded (s : Part) (old : PendingChange) (new : Source) : Part :=
  s.notice .changeSuperseded (pendingWords (some old) ++ [word (old.source.code + at_ new.code 8)])

/-- CHANGE REFUSED: a pedal or cue request as given, and the reason. A bar or an argument that the request has none of is sent
as 0 (DEDUCED, log 34). -/
def Part.refused (s : Part) (r : Request) (why : Result) : Part :=
  s.notice .changeRefused
    [ word (r.target.code + at_ r.boundary.code 4 + at_ r.priority 6 + at_ r.target.argument 8)
    , word r.boundary.bar
    , word (r.source.code + at_ why.code 8) ]

/-! ### Taking (R85 to R88) -/

/-- A song entry, for a position and a song and scene or none (R86). -/
def Part.songEntry (s : Part) (position : Nat) (place : Option Place) : Part × Due :=
  let s1 := { s with setlist := { s.setlist with position := position, place := place } }
  let r := s1.resetSongTime.startByMode
  let s2 := r.1.stopCue.setCueMute false
  let s3 := { s2 with setlist := { s2.setlist with markBar := 1, markBeat := 1, markPassed := false } }
  (s3.sceneEntry true, r.2)

/-- A scene target's work: the scene number is set and the scene of the active song entered (R88), under an emptied setlist
too (DEDUCED, log 35). -/
def Part.enterScene (s : Part) (sc : SceneNo) : Part :=
  match s.setlist.place with
  | none => s
  | some pl =>
    ({ s with setlist := { s.setlist with place := some { pl with scene := sc } } }).sceneEntry false

/-- The resolved target names a song entry. -/
def Resolved.isSong : Resolved → Bool
  | .song .. => true
  | .scene _ | .reload => false

/-- A request is taken: the slot is emptied and the target acts as it reads now (R85). A SCENE target and RELOAD act on the
active song, whatever the setlist holds (R75, R88; DEDUCED, log 35). -/
def Part.take (s : Part) (r : PendingChange) : Part × Due :=
  let t := s.setPending none
  match r.target with
  | .song i sc =>
    match t.songAt i with
    | none => t.songEntry 0 none
    | some n =>
      let scene := match sc with
        | some x => t.clampScene n x.val
        | none => t.firstSceneOf n
      t.songEntry (clamp 0 (t.songCount - 1) i) (some { song := n, scene := scene })
  | .scene sc =>
    match t.setlist.place with
    | none => (t, .nothing)
    | some pl => (t.enterScene (t.clampScene pl.song sc.val), .nothing)
  | .reload => (t.sceneEntry false, .nothing)

/-- The transport has entered STOPPED: a pending request is taken (R83). -/
def Part.takeStopped (s : Part) : Part × Due :=
  match s.setlist.pending with
  | none => (s, .nothing)
  | some r => s.take r

/-- STOP, with the taking that follows a change into STOPPED (R83, R98, R100). -/
def Part.stop (s : Part) : Part × Due :=
  match s.tempo.transport with
  | .stopped => (s, .nothing)
  | .countingIn _ | .running => s.enterStopped.takeStopped

/-! ### Arbitration (R80, R81) -/

/-- What became of a request. -/
inductive Outcome where
  | noChange
  | refused (why : Result)
  | stored
  | taken
  deriving DecidableEq, Repr

/-- A stored request that is taken within its event: IMMEDIATE, or any while STOPPED (R81, R83). -/
def Part.takesAtOnce (s : Part) (b : Boundary) : Bool :=
  match s.tempo.transport with
  | .stopped => true
  | .countingIn _ | .running => b == .immediate

/-- A request is stored, and taken if its boundary is met at once (R81). -/
def Part.store (s : Part) (p : PendingChange) : Part × Due × Outcome :=
  let t := s.setPending (some p)
  if t.takesAtOnce p.boundary then
    let r := t.take p
    (r.1, r.2, .taken)
  else (t, .nothing, .stored)

/-- A request through R78 to R81. -/
def Part.submit (s : Part) (r : Request) : Part × Due × Outcome :=
  match s.resolveTarget r.target with
  | none => (s, .nothing, .refused .badIndex)
  | some target =>
    let p : PendingChange :=
      { source := r.source, target := target, boundary := r.boundary, priority := r.priority }
    match s.setlist.pending with
    | none => if s.alreadyAt target then (s, .nothing, .noChange) else s.store p
    | some old =>
      if r.priority < old.priority then (s, .nothing, .refused .lowerPriority)
      else (s.superseded old r.source).store p

/-- A pedal or cue request: a refusal is reported by a notice (R81). -/
def Part.submitQuiet (s : Part) (r : Request) : Part × Due :=
  let x := s.submit r
  match x.2.2 with
  | .refused why => (x.1.refused r why, x.2.1)
  | .noChange | .stored | .taken => (x.1, x.2.1)

/-! ### The cue list (R89 to R91) -/

/-- The cue of the active song at the present position, if it is eligible (R89). -/
def Part.cueHere (s : Part) : Option CueAction :=
  let bar := s.tempo.bar
  let beat := s.tempo.beat
  let later := s.setlist.markBar < bar || (s.setlist.markBar == bar && s.setlist.markBeat < beat)
  let same := s.setlist.markBar == bar && s.setlist.markBeat == beat && !s.setlist.markPassed
  if later || same then
    match s.activeSong with
    | none => none
    | some r => (r.cueList.find? fun e => e.bar == bar && e.beat == beat).bind CueEntry.act
  else none

/-- The cue mark becomes the present position, passed (R89). -/
def Part.markHere (s : Part) : Part :=
  { s with
    setlist := { s.setlist with markBar := s.tempo.bar, markBeat := s.tempo.beat, markPassed := true } }

/-- The cue mark after a position set (R89). -/
def Part.resetMark (s : Part) : Part :=
  { s with
    setlist := { s.setlist with markBar := s.tempo.bar, markBeat := s.tempo.beat, markPassed := false } }

/-- A cue's change request, at the active song's cue priority (R90, R91). -/
def Part.cueRequest (s : Part) (t : Target) : Part × Due :=
  match s.activeSong with
  | none => (s, .nothing)
  | some r => s.submitQuiet { source := .cue, target := t, boundary := .immediate, priority := r.cuePriority }

/-- A cue fires (R90). -/
def Part.fireCue (s : Part) (a : CueAction) : Part × Due :=
  match a with
  | .scene sc => s.cueRequest (.sceneAt sc)
  | .nextSong => s.cueRequest .nextSong
  | .muteOn => (s.setCueMute true, .nothing)
  | .muteOff => (s.setCueMute false, .nothing)
  | .stop => if s.tempo.followSong then (s, .nothing) else s.stop
  | .cue n w => (s.startCue n w, .nothing)

/-- The cue list is examined at the present position: the mark is set, and an eligible cue fires (R89; log 10). -/
def Part.examineCues (s : Part) : Part × Due :=
  match s.activeSong with
  | none => (s.markHere, .nothing)
  | some _ =>
    match s.cueHere with
    | none => (s.markHere, .nothing)
    | some a => s.markHere.fireCue a

/-! ### What TEMPO's beats owe (R82 to R84) -/

/-- The present beat start meets a boundary (R82). -/
def Part.meets (s : Part) (b : Boundary) : Bool :=
  match b with
  | .immediate => false
  | .nextBeat => true
  | .nextBar => s.tempo.beat == 1
  | .atBar x => s.tempo.beat == 1 && x ≤ s.tempo.bar

/-- A request waits for a count beat (R83). -/
def Boundary.atCount : Boundary → Bool
  | .nextBeat | .nextBar => true
  | .immediate | .atBar _ => false

/-- One round of SETLIST's work at a beat start or a count beat: what it does, and what that in turn owes. After a song
entry the cue list of the old position is not examined (R84). -/
def Part.beatWork (s : Part) : Due → Part × Due
  | .nothing => (s, .nothing)
  | .countBeat =>
    match s.setlist.pending with
    | some r => if r.boundary.atCount then s.take r else (s, .nothing)
    | none => (s, .nothing)
  | .beat =>
    match s.setlist.pending with
    | some r =>
      if s.meets r.boundary then
        let t := s.take r
        if r.target.isSong then t else t.1.examineCues
      else s.examineCues
    | none => s.examineCues

/-- SETLIST's work until nothing is owed; `fuel` bounds the nesting (log 11). -/
def Part.settle (s : Part) (d : Due) : Nat → Part
  | 0 => s
  | fuel + 1 =>
    match d with
    | .nothing => s
    | .beat | .countBeat =>
      let r := s.beatWork d
      r.1.settle r.2 fuel

/-- An event of TEMPO or SETLIST with the work it owes (log 9). -/
def finish (r : Part × Due) : Part := r.1.settle r.2 Config.beatDepth

/-- SETLIST's reset at start-up and at the drain end (R76). -/
def Part.startSetlist (s : Part) : Part :=
  let place := (s.songAt 0).map fun n => ({ song := n, scene := s.firstSceneOf n } : Place)
  { s with
    setlist := { SetlistState.reset with place := place } }

end Sys2Proof.Machine
end

