-- ==== Sys2Proof/Machine/Tempo.lean ====
section
/-!
DEFINITION. The commands of TEMPO and CLICK that time and the TIMING ports make: the accumulator's tick, the source
timer, the cue timer, and the frames of the timing source (R94, R107 to R111, R122).
-/

namespace Sys2Proof.Machine

/-! ### The accumulator (R94) -/

/-- The accumulator has made a tick in this microsecond: at most one occurs in any (R94; log 32). -/
def Part.tickedNow (s : Part) : Bool := s.tempo.lastTick == some s.now

/-- Microseconds until the accumulator reaches or passes the tick interval and may make a tick. -/
def Part.untilTick (s : Part) : Nat :=
  max (if s.tickedNow then 1 else 0)
    ((tickInterval s.effectiveTempo - s.tempo.acc + (Config.accUnit - 1)) / Config.accUnit)

/-- The accumulator reaches the tick interval and a tick occurs; the residue stays. -/
def Part.accumulatorTick (s : Part) : Part :=
  if s.accRuns then
    let t := s.elapse s.untilTick
    finish (t.setTempo fun x => { x with acc := x.acc - tickInterval t.effectiveTempo, lastTick := some t.now }).tick
  else s

/-- ACCUMULATOR_TICK (R94). -/
def execAccumulatorTick (s : State) : Host.Outcome State Fault Refusal := s.act Part.accumulatorTick

/-! ### The source timer and the cue timer (R111, R122) -/

/-- The source timer runs out. -/
def Part.expireSource (s : Part) : Part :=
  match s.tempo.sourceTimer with
  | none => s
  | some t => (s.elapseTo t).holdover

/-- SOURCE_TIMER_EXPIRY (R111). -/
def execSourceTimerExpiry (s : State) : Host.Outcome State Fault Refusal := s.act Part.expireSource

/-- The cue timer runs out. -/
def Part.expireCue (s : Part) : Part :=
  match s.click.cue with
  | none => s
  | some c => (s.elapseTo c.timer).stopCue

/-- CUE_TIMER_EXPIRY (R122). -/
def execCueTimerExpiry (s : State) : Host.Outcome State Fault Refusal := s.act Part.expireCue

/-! ### Frames of the timing source (R107 to R110) -/

/-- A timing frame accepted from a TIMING port: taken from the timing source in a FOLLOW song, else passed over (R107). -/
def Part.fromSource (s : Part) (p : Port) (body : Part → Part) : Part :=
  s.accept p .timing fun t => if t.tempo.followSong ∧ t.tempo.source = some p then body t else t

/-- SOURCE_CLOCK (R109). -/
def execSourceClock (wait : Nat) (p : Port) (s : State) : Host.Outcome State Fault Refusal :=
  s.act fun t => (t.elapse wait).fromSource p fun u => finish (u.sourceClockTaken p)

/-- A TRANSPORT START frame (R102, R108). -/
def Part.sourceStart (s : Part) : Part :=
  match s.tempo.transport with
  | .stopped | .countingIn _ => finish s.runFromHere
  | .running => s

/-- TRANSPORT_START_FRAME (R108). -/
def execTransportStartFrame (p : Port) (s : State) : Host.Outcome State Fault Refusal :=
  s.act fun t => t.fromSource p Part.sourceStart

/-- TRANSPORT_STOP_FRAME (R108). -/
def execTransportStopFrame (p : Port) (s : State) : Host.Outcome State Fault Refusal :=
  s.act fun t => t.fromSource p fun u => finish u.stop

/-- The beat of a POSITION frame: clamped to 1-15, then to the numerator in force at that bar (R110). -/
def Part.positionBeat (s : Part) (bar beat : Nat) : Nat :=
  let b := clamp 1 15 beat
  match s.activeSong with
  | none => b
  | some r => match entryAt r.tempoMap bar with
    | none => b
    | some e => min b e.numerator

/-- A position set reported to SETLIST, which moves the cue mark (R89, R99, R110). -/
def Part.jumpTo (s : Part) (bar beat : Nat) : Part := (s.setPosition bar beat).resetMark

/-- A POSITION frame (R110). -/
def Part.sourcePosition (s : Part) (bar beat : Nat) : Part :=
  let bar := clamp 1 9999 bar
  let t := s.jumpTo bar (s.positionBeat bar beat)
  match s.tempo.transport with
  | .countingIn _ => s
  | .stopped => t
  | .running =>
    finish (if t.tempo.follow = .following then t else t.setTempo fun x => { x with acc := 0 }).handTick

/-- POSITION_FRAME (R110). -/
def execPositionFrame (p : Port) (bar : BitVec 14) (beat : BitVec 4) (s : State) :
    Host.Outcome State Fault Refusal :=
  s.act fun t => t.fromSource p fun u => u.sourcePosition bar.toNat beat.toNat

end Sys2Proof.Machine
end

