-- ==== Sys2Proof/Machine/Pedal.lean ====
section
/-!
DEFINITION. PEDAL (chapter 7): debounce, triggers, their actions, and the pedal table's load.
-/

namespace Sys2Proof.Machine

/-! ### Debounce (R127) -/

def Part.trigger (s : Part) (i : Trigger) : TriggerRecord := s.tables.pedal.triggers[i]

/-- One line at one sample: its debounce count and filtered level afterwards. -/
def debounceLine (raw filtered : Bool) (count time : Nat) : Nat × Bool :=
  if raw = filtered then (0, filtered)
  else if count + 1 < time then (count + 1, filtered)
  else (0, raw)

/-- The result of one line of a sample. -/
def Part.lineAfter (s : Part) (levels : BitVec 8) (i : Trigger) : Nat × Bool :=
  debounceLine (levels.getLsbD i.val) (s.pedal.filtered.getLsbD i.val) s.pedal.counts[i] s.tables.pedal.debounce[i]

/-- Eight levels as one value, line P0 in bit 0. -/
def levelsOf (f : Trigger → Bool) : BitVec 8 := BitVec.ofNat 8 (allTriggers.map fun i => bitAt (f i) i.val).sum

/-- The lines of one sample are filtered. -/
def Part.filterLines (s : Part) (levels : BitVec 8) : Part :=
  { s with
    pedal := { s.pedal with
      filtered := levelsOf fun i => (s.lineAfter levels i).2
      counts := Vector.ofFn fun i => (s.lineAfter levels i).1 } }

/-! ### Conformity and state (R129) -/

/-- A trigger is in conformity with filtered levels; one with an empty mask is not. -/
def TriggerRecord.conforms (t : TriggerRecord) (filtered : BitVec 8) : Bool :=
  t.mask != 0 && (filtered &&& t.mask) == (t.pattern &&& t.mask)

def Part.setArmed (s : Part) (i : Trigger) (b : Bool) : Part :=
  { s with pedal := { s.pedal with armed := upd s.pedal.armed i fun _ => b } }

def Part.setHeld (s : Part) (i : Trigger) (b : Bool) : Part :=
  { s with pedal := { s.pedal with held := upd s.pedal.held i fun _ => b } }

/-- Every armed state is set from the filtered levels, without firing (R134, R135). -/
def Part.armAll (s : Part) : Part :=
  { s with pedal := { s.pedal with armed := Vector.ofFn fun i => (s.trigger i).conforms s.pedal.filtered } }

/-! ### Actions (R131 to R133) -/

/-- The target of a change action (R132); none for another action. -/
def TriggerRecord.target (t : TriggerRecord) : Option Target :=
  match t.action with
  | .nextSong => some .nextSong
  | .prevSong => some .prevSong
  | .nextScene => some .nextScene
  | .prevScene => some .prevScene
  | .songAt => some (.songAt t.parameter)
  | .sceneAt => some (.sceneAt t.parameter)
  | .startStop | .tap | .cueStop | .panic | .sustain | .clickMute => none

/-- START/STOP at TEMPO (R97, R98, R131). -/
def Part.startStop (s : Part) : Part :=
  if s.tempo.followSong then s
  else match s.tempo.transport with
    | .stopped => finish s.start
    | .countingIn _ | .running => finish s.stop

/-- A trigger's change request (R132). -/
def Part.pedalChange (s : Part) (i : Trigger) (t : TriggerRecord) (target : Target) : Part :=
  match boundaryOf t.boundary t.bar with
  | none => s
  | some b => finish (s.submitQuiet { source := .pedal i, target := target, boundary := b, priority := t.priority })

/-- A firing trigger's action is delivered (R131 to R133). -/
def Part.deliver (s : Part) (i : Trigger) : Part :=
  let t := s.trigger i
  match t.action with
  | .nextSong | .prevSong | .nextScene | .prevScene | .songAt | .sceneAt =>
    match t.target with
    | some target => s.pedalChange i t target
    | none => s
  | .startStop => s.startStop
  | .tap => s.tap
  | .cueStop => s.stopCue
  | .panic => s.panic
  | .sustain =>
    match portOf t.parameter with
    | some p => (s.setHeld i true).sustainHold i p
    | none => s.setHeld i true
  | .clickMute => (s.setHeld i true).setHeldMute i true

/-- A held level action ends, under the record it began with (R133). -/
def Part.endHold (s : Part) (i : Trigger) (t : TriggerRecord) : Part :=
  if s.pedal.held[i] then
    let u := s.setHeld i false
    match t.action with
    | .sustain => u.sustainRelease i
    | .clickMute => u.setHeldMute i false
    | .nextSong | .prevSong | .nextScene | .prevScene | .songAt | .sceneAt | .startStop | .tap | .cueStop | .panic => u
  else s

/-! ### Evaluation (R130) -/

/-- One trigger at one sample. -/
def Part.evaluate (s : Part) (i : Trigger) : Part :=
  let t := s.trigger i
  let fits := t.conforms s.pedal.filtered
  match s.pedal.armed[i], fits with
  | true, true | false, false => s
  | true, false => (s.setArmed i false).deliver i
  | false, true => (s.setArmed i true).endHold i t

/-- The first sample after start-up sets the levels and the armed states without firing (R134). -/
def Part.firstSample (s : Part) (levels : BitVec 8) : Part :=
  ({ s with
    pedal := { s.pedal with filtered := levels, counts := Vector.replicate 8 0, held := Vector.replicate 8 false } }).armAll

/-- The time in ms of the next sample: samples fall on whole ms, one to each (R127). -/
def Part.nextSample (s : Part) : Nat :=
  let now := (s.now + (Config.msec - 1)) / Config.msec
  match s.pedal.lastSample with
  | some t => max now (t + 1)
  | none => now

/-- One sample of the eight lines (R127, R130, R134). None is taken until the store load has completed. -/
def Part.sample (s : Part) (levels : BitVec 8) : Part :=
  if s.starting then { s with pedal := { s.pedal with levels := levels } }
  else
    let at_ms := s.nextSample
    let t := s.elapseTo (at_ms * Config.msec)
    let u := { t with pedal := { t.pedal with levels := levels, lastSample := some at_ms } }
    match s.pedal.lastSample with
    | none => u.firstSample levels
    | some _ => allTriggers.foldl Part.evaluate (u.filterLines levels)

/-- PEDAL_SAMPLE (R127). -/
def execPedalSample (levels : BitVec 8) (s : State) : Host.Outcome State Fault Refusal := s.act fun t => t.sample levels

/-! ### Loads (R135) -/

/-- A pedal record is written: changed triggers end their holds, and every trigger is armed without firing (R135). A field
that its action does not read counts as a field that differs (DESIGN CHOICE, log 33). -/
def Part.writePedal (s : Part) (r : PedalTable) : Part :=
  let old := s.tables.pedal
  let t := { s with tables := { s.tables with pedal := r } }
  let u := allTriggers.foldl (fun u i => if old.triggers[i] = r.triggers[i] then u else u.endHold i old.triggers[i]) t
  u.armAll

end Sys2Proof.Machine
end

