-- ==== Sys2Proof/Machine/Drain.lean ====
section
/-!
DEFINITION. The drain of a RESTART (R48, R193): its start, its end, and what each block resets there.
-/

namespace Sys2Proof.Machine

/-- The end of the drain (R48, R193): WATCH, SETLIST, TEMPO, CLICK and SCENE reset their play state, then CONSOLE sets the
reset cause and replies (DEDUCED order, log 16). -/
def Part.endDrain (s : Part) (d : Drain) : Part :=
  let t := s.resetWatch.startSetlist.resetTempo.resetClick.resetScene
  ({ t with console := { t.console with drain := none, cause := .restart } }).reply d.port 20 d.tag .done

/-- An event that may have emptied the table ends the drain where it has (R25, R48; log 15). -/
def Part.closeDrain (s : Part) : Part :=
  match s.console.drain with
  | none => s
  | some d => if s.notes.entries = [] then s.endDrain d else s

/-- The drain begins (R48, R193). -/
def Part.startDrain (s : Part) (p : Port) (tag : Byte) : Part :=
  let t := s.releaseAll .restart
  ({ t with console := { t.console with drain := some { port := p, tag := tag } } }).closeDrain

/-- DRAIN_END (R48). -/
def execDrainEnd (s : State) : Host.Outcome State Fault Refusal := s.act Part.closeDrain

end Sys2Proof.Machine
end

