-- ==== Sys2Proof/Machine/Link.lean ====
section
/-!
DEFINITION. LINK (chapter 9): carrier, identification, the fault burst, entering and leaving UP, and emission.
-/

namespace Sys2Proof.Machine

/-! ### The edit claim (R182), which a link loss may release -/

/-- The claim passes to another owner: the old owner's load is abandoned, and a change is noticed (R182). -/
def Part.setOwner (s : Part) (new : Option Port) : Part :=
  let old := s.console.owner
  if old = new then s
  else
    let load := match s.console.load with
      | some l => if old = some l.owner then none else some l
      | none => none
    ({ s with console := { s.console with owner := new, load := load } }).notice .claim
      [word (portCode old + at_ (portCode new) 4)]

/-- A load is abandoned if it belongs to a port (R185). -/
def Part.abandonLoad (s : Part) (p : Port) : Part :=
  match s.console.load with
  | some l => if l.owner = p then { s with console := { s.console with load := none } } else s
  | none => s

/-- A CONSOLE port leaves UP (R175, R182). -/
def Part.consoleLost (s : Part) (p : Port) : Part :=
  (if s.console.owner = some p then s.setOwner none else s).abandonLoad p

/-! ### The transmitter (R164, R166) -/

/-- A frame is passed to the link: it occupies the transmitter for its length (R164). -/
def Part.passFrame (s : Part) (p : Port) (f : Frame) : Part :=
  s.updLink p fun l => { l with sending := some f, freeAt := s.now + f.duration }

/-- The part's IDENT on a port: its offered role is the one expected from the partner (R166). -/
def Part.identFrame (s : Part) (p : Port) : Frame := .ident (s.role p).expected

/-- The part's IDENT is passed, and its time kept (R167, log 21). -/
def Part.passIdent (s : Part) (p : Port) : Part :=
  (s.passFrame p (s.identFrame p)).updLink p fun l => { l with lastIdent := some s.now, identWaiting := false }

/-- An IDENT is sent at once, or as soon as the frame that is leaving has left (R166, log 22). -/
def Part.sendIdent (s : Part) (p : Port) : Part :=
  if (s.link p).freeAt ≤ s.now then s.passIdent p else s.updLink p fun l => { l with identWaiting := true }

/-- A port enters IDENT (R166). -/
def Part.enterIdent (s : Part) (p : Port) : Part :=
  (s.updLink p fun l =>
    { l with phase := .ident, identTimer := some (s.now + Config.identPeriod), refusalTimer := none }).sendIdent p

/-- A port is DOWN, with every timer of the identification exchange stopped. An IDENT that still waits for the transmitter
is not sent: DOWN sends none (R165; log 22). -/
def Part.enterDown (s : Part) (p : Port) : Part :=
  s.updLink p fun l => { l with phase := .down, identTimer := none, refusalTimer := none, identWaiting := false }

/-- A port enters REFUSED, or restarts its refusal timer there (R166). An IDENT that still waits for the transmitter is not
sent: REFUSED sends none (R165, R166; log 22). -/
def Part.enterRefused (s : Part) (p : Port) : Part :=
  s.updLink p fun l =>
    { l with phase := .refused, identTimer := none, identWaiting := false,
             refusalTimer := some (s.now + Config.refusalTime) }

/-! ### Entering and leaving UP (R175, R176) -/

/-- A port enters UP. An IDENT that still waits for the transmitter is not sent: no further IDENT is sent for the change
(R166, DEDUCED, log 22). -/
def Part.enterUp (s : Part) (p : Port) : Part :=
  let t := s.updLink p fun l =>
    { l with phase := .up, queue := [], burst := 0, faults := [], identTimer := none, refusalTimer := none,
             identWaiting := false }
  match s.role p with
  | .modulePort => t.moduleLinkUp p
  | .console => { t with console := { t.console with masks := upd t.console.masks p fun _ => 255 } }
  | .timing => t.chooseSource
  | .controller | .band | .off => t

/-- A port leaves UP into another phase: the teardown. -/
def Part.leaveUp (s : Part) (p : Port) (phase : Phase) : Part :=
  let s1 := s.updLink p fun l => { l with phase := phase, losses := bump 255 l.losses, faults := [] }
  let s2 := match s.role p with
    | .controller => s1.sourceLost p
    | .modulePort => (s1.moduleLinkLost p).setStarted p false
    | .console => s1.consoleLost p
    | .timing => s1.chooseSource
    | .band | .off => s1
  let s3 := s2.updLink p fun l => { l with queue := [] }
  match s.role p with
  | .modulePort => s3.removeDest p
  | .off | .controller | .band | .console | .timing => s3

/-! ### Carrier and the link timers (R164 to R166, R169) -/

/-- Carrier becomes present. The ports stay DOWN until the store load has completed (R178). -/
def Part.gainCarrier (s : Part) (p : Port) : Part :=
  let t := s.updLink p fun l => { l with carrier := true }
  match (s.link p).phase, (s.link p).faultHold with
  | .down, none => if s.starting then t else t.enterIdent p
  | _, _ => t

/-- Carrier is lost. -/
def Part.loseCarrier (s : Part) (p : Port) : Part :=
  let t := s.updLink p fun l => { l with carrier := false }
  match (s.link p).phase with
  | .off | .down => t
  | .ident | .refused => t.enterDown p
  | .up => (t.leaveUp p .down).closeDrain

/-- CARRIER_PRESENT (R165). -/
def execCarrierPresent (p : Port) (s : State) : Host.Outcome State Fault Refusal := s.act fun t => t.gainCarrier p

/-- CARRIER_LOST (R164). -/
def execCarrierLost (p : Port) (s : State) : Host.Outcome State Fault Refusal := s.act fun t => t.loseCarrier p

/-- The fault hold runs out (R169). -/
def Part.expireHold (s : Part) (p : Port) : Part :=
  match (s.link p).faultHold with
  | none => s
  | some t =>
    let u := (s.elapseTo t).updLink p fun l => { l with faultHold := none }
    if (s.link p).carrier then u.enterIdent p else u

/-- FAULT_HOLD_EXPIRY (R169). -/
def execFaultHoldExpiry (p : Port) (s : State) : Host.Outcome State Fault Refusal := s.act fun t => t.expireHold p

/-- The IDENT timer reaches 200 ms (R166). -/
def Part.expireIdent (s : Part) (p : Port) : Part :=
  match (s.link p).identTimer with
  | none => s
  | some t =>
    let u := s.elapseTo t
    (u.updLink p fun l => { l with identTimer := some (u.now + Config.identPeriod) }).sendIdent p

/-- IDENT_TIMER_EXPIRY (R166). -/
def execIdentTimerExpiry (p : Port) (s : State) : Host.Outcome State Fault Refusal := s.act fun t => t.expireIdent p

/-- The refusal timer runs out (R166). -/
def Part.expireRefusal (s : Part) (p : Port) : Part :=
  match (s.link p).refusalTimer with
  | none => s
  | some t =>
    let u := (s.elapseTo t).updLink p fun l => { l with refusalTimer := none }
    if (s.link p).carrier then u.enterIdent p else u

/-- REFUSAL_TIMER_EXPIRY (R166). -/
def execRefusalTimerExpiry (p : Port) (s : State) : Host.Outcome State Fault Refusal :=
  s.act fun t => t.expireRefusal p

/-! ### Identification (R166, R167) -/

/-- The part has sent an IDENT on the port within the last 200 ms (R167, log 21). -/
def Part.identRecent (s : Part) (p : Port) : Bool :=
  match (s.link p).lastIdent with
  | some t => s.now < t + Config.identPeriod
  | none => false

/-- An IDENT waits in the port's output queue: an answer that has not been passed yet. -/
def Part.identQueued (s : Part) (p : Port) : Bool := (s.link p).queue.any fun it => it.frame.kind == 0

/-- An expected IDENT taken in UP is answered by one IDENT (R167), unless one has been passed within the last 200 ms. One
that waits in the queue stands for sent, and one flushed from it was never sent (DEDUCED, log 21). -/
def Part.answerIdent (s : Part) (p : Port) : Part :=
  if s.identRecent p || s.identQueued p then s else s.offer p (s.identFrame p)

/-- A received IDENT. -/
def Part.takeIdent (s : Part) (p : Port) (offered : Nat) : Part :=
  let expected : Bool := offered == (s.role p).expected
  match (s.link p).phase with
  | .off | .down => s
  | .ident | .refused => if expected then s.enterUp p else s.enterRefused p
  | .up => if expected then s.answerIdent p else ((s.leaveUp p .refused).enterRefused p).closeDrain

/-- IDENT (R166). -/
def execIdent (wait : Nat) (p : Port) (offered : BitVec 3) (s : State) : Host.Outcome State Fault Refusal :=
  s.act fun t => (t.elapse wait).takeIdent p offered.toNat

/-! ### Frame faults (R168, R169) -/

/-- A frame fault is counted (R168). -/
def Part.countFault (s : Part) (p : Port) : Part :=
  s.updLink p fun l => { l with frameFaults := bump 65535 l.frameFaults }

/-- A frame fault's time joins the list of recent faults in UP (R169). -/
def Part.joinFaults (s : Part) (p : Port) : Part :=
  match (s.link p).faults ++ [s.now] with
  | [] => s
  | oldest :: rest =>
    if rest.length < 7 then s.updLink p fun l => { l with faults := oldest :: rest }
    else if s.now < oldest + Config.burstTime then
      ((s.leaveUp p .down).updLink p fun l =>
        { l with faultHold := some (s.now + Config.faultHold) }).closeDrain
    else s.updLink p fun l => { l with faults := rest }

/-- A frame fault. -/
def Part.takeFault (s : Part) (p : Port) : Part :=
  match (s.link p).phase with
  | .off | .down => s
  | .ident | .refused => s.countFault p
  | .up => (s.countFault p).joinFaults p

/-- FRAME_FAULT (R168). -/
def execFrameFault (wait : Nat) (p : Port) (s : State) : Host.Outcome State Fault Refusal :=
  s.act fun t => (t.elapse wait).takeFault p

/-- A checked frame that is discarded and counted (R170); no frame is taken in OFF and DOWN (R165). -/
def Part.takeUnexpected (s : Part) (p : Port) : Part :=
  match (s.link p).phase with
  | .off | .down => s
  | .ident | .refused | .up => s.countUnexpected p

/-- UNEXPECTED_FRAME (R170). -/
def execUnexpectedFrame (p : Port) (s : State) : Host.Outcome State Fault Refusal := s.act fun t => t.takeUnexpected p

/-! ### Emission (R172, R173) -/

/-- The frame that a free transmitter chooses (R172), `nothing` where it has none to send: what the line then carries, idle
words or silence, is `Part.transmits`. -/
inductive Choice where
  | nothing
  | ident
  | release (e : Entry)
  | head (it : QueueItem) (rest : List QueueItem)
  deriving DecidableEq, Repr

def Part.headChoice (s : Part) (p : Port) : Choice :=
  match (s.link p).queue with
  | [] => .nothing
  | it :: rest => .head it rest

/-- The head of a port's queue is a CLOCK. -/
def Part.clockAtHead (s : Part) (p : Port) : Bool :=
  match (s.link p).queue with
  | it :: _ => it.frame == .clock
  | [] => false

/-- The choice of R172; in IDENT, an IDENT that waits for the transmitter (log 22). -/
def Part.choice (s : Part) (p : Port) : Choice :=
  match (s.link p).phase with
  | .off | .down | .refused => .nothing
  | .ident => if (s.link p).identWaiting then .ident else .nothing
  | .up =>
    if s.role p = .modulePort then
      if 8 ≤ (s.link p).burst ∧ s.clockAtHead p = true then s.headChoice p
      else match s.nextRelease p with
        | some e => .release e
        | none => s.headChoice p
    else s.headChoice p

/-- The chosen frame is passed to the link (R172, R173). -/
def Part.passChoice (s : Part) (p : Port) : Choice → Part
  | .nothing => s
  | .ident => s.passIdent p
  | .release e =>
    ((s.passFrame p e.upFrame).updLink p fun l => { l with burst := bump 8 l.burst }).passUp e
  | .head it rest =>
    let t := (s.passFrame p it.frame).updLink p fun l =>
      { l with queue := rest, burst := 0,
               lastIdent := match it.frame with
                 | .ident _ => some s.now
                 | .keyDown .. | .keyUp .. | .pressure .. | .control .. | .preset .. | .clock | .transport _
                 | .click .. | .cue .. | .reply .. | .notice .. => l.lastIdent }
    t.clearPending it

/-- The transmitter is free and chooses its next frame; where there is none it sends idle words. -/
def Part.emit (s : Part) (p : Port) : Part :=
  match s.choice p with
  | .nothing => s
  | c => ((s.elapseTo (s.link p).freeAt).passChoice p c).closeDrain

/-- EMISSION_CHOICE (R172). -/
def execEmissionChoice (p : Port) (s : State) : Host.Outcome State Fault Refusal := s.act fun t => t.emit p

/-! ### The transmit line (R164) -/

/-- What a port's transmit line carries: nothing, idle words, or the words of a frame. -/
inductive Transmit where
  | silent
  | idle
  | frame (f : Frame)
  deriving DecidableEq, Repr

/-- What a port's transmitter does at this moment (R164, R165, R178): silent from device reset until the store load has
completed; else the frame last passed, until its last word has left; else silent in OFF, and idle words in DOWN, IDENT,
REFUSED and UP. A frame that is leaving when a role change gives OFF is sent to its end (DEDUCED, log 22). -/
def Part.transmits (s : Part) (p : Port) : Transmit :=
  if s.starting then .silent
  else match (if s.now < (s.link p).freeAt then (s.link p).sending else none) with
    | some f => .frame f
    | none => match (s.link p).phase with
      | .off => .silent
      | .down | .ident | .refused | .up => .idle

/-- The words on the line (R164, R196): of a frame all, of idle words the one that is sent over and over. -/
def Transmit.words : Transmit → List (BitVec 20)
  | .silent => []
  | .idle => [lineWord false 0]
  | .frame f => f.words.map (lineWord true)

end Sys2Proof.Machine
end

