-- ==== Sys2Proof/Machine/Keys.lean ====
section
/-!
DEFINITION. The commands of the key path and of the MODULE ports: the frames a CONTROLLER port and a MODULE port accept
(R7, R170), and the timers of SCENE and WATCH.
-/

namespace Sys2Proof.Machine

/-! ### Frames of CONTROLLER ports (R7) -/

/-- KEY_DOWN (R12). -/
def execKeyDown (p : Port) (key : BitVec 7) (strike : BitVec 10) (s : State) : Host.Outcome State Fault Refusal :=
  s.act fun t => t.accept p .controller fun u => u.zoneKeyDown p key.toNat strike.toNat

/-- KEY_UP (R13, R33). -/
def execKeyUp (p : Port) (key : BitVec 7) (strike : BitVec 10) (s : State) : Host.Outcome State Fault Refusal :=
  s.act fun t => t.accept p .controller fun u => u.noteUp p key.toNat strike.toNat

/-- PRESSURE (R15). -/
def execPressure (p : Port) (key : BitVec 7) (value : BitVec 10) (s : State) : Host.Outcome State Fault Refusal :=
  s.act fun t => t.accept p .controller fun u => u.zonePressure p key.toNat value.toNat

/-- CONTROL (R16, R17). -/
def execControl (p : Port) (controller : BitVec 8) (value : BitVec 10) (s : State) :
    Host.Outcome State Fault Refusal :=
  s.act fun t => t.accept p .controller fun u => u.zoneControl p controller.toNat value.toNat

/-- SUSTAIN (R14, R34). -/
def execSustain (p : Port) (value : BitVec 10) (s : State) : Host.Outcome State Fault Refusal :=
  s.act fun t => t.accept p .controller fun u => u.sustainEvent p value.toNat

/-! ### Frames of MODULE ports (R139, R146, R170) -/

/-- A PRESENCE frame at LINK. -/
def Part.takePresence (s : Part) (wait : Nat) (p : Port) (st : Status) : Part :=
  (s.elapse wait).accept p .modulePort fun u => u.presenceFrame p st

/-- PRESENCE_READY (R146). -/
def execPresenceReady (wait : Nat) (p : Port) (s : State) : Host.Outcome State Fault Refusal :=
  s.act fun t => t.takePresence wait p .ready

/-- PRESENCE_SETTLING (R146). -/
def execPresenceSettling (wait : Nat) (p : Port) (s : State) : Host.Outcome State Fault Refusal :=
  s.act fun t => t.takePresence wait p .settling

/-- PRESENCE_FAULT (R141, R146). -/
def execPresenceFault (wait : Nat) (p : Port) (s : State) : Host.Outcome State Fault Refusal :=
  s.act fun t => t.takePresence wait p .fault

/-! ### Timers (R64, R139, R147, R150, R154) -/

/-- A settle timer runs out, in SETTLING. -/
def Part.settleDue (s : Part) (p : Port) : Part :=
  match s.scene.settle[p] with
  | none => s
  | some st => (s.elapseTo st.timer).expireSettle p

/-- SETTLE_TIMER_EXPIRY (R64). -/
def execSettleTimerExpiry (p : Port) (s : State) : Host.Outcome State Fault Refusal := s.act fun t => t.settleDue p

/-- A presence timer runs out. -/
def Part.presenceDue (s : Part) (p : Port) : Part :=
  match (s.module p).presenceTimer with
  | none => s
  | some t =>
    ((s.elapseTo t).updModule p fun m => { m with presenceTimer := none }).raiseReason p .presenceTimeout

/-- PRESENCE_TIMER_EXPIRY (R139). -/
def execPresenceTimerExpiry (p : Port) (s : State) : Host.Outcome State Fault Refusal :=
  s.act fun t => t.presenceDue p

/-- A commanded timer runs out: COMMANDED is removed. -/
def Part.commandedDue (s : Part) (p : Port) : Part :=
  match (s.module p).commandedTimer with
  | none => s
  | some t =>
    ((s.elapseTo t).updModule p fun m => { m with commandedTimer := none }).dropReasons p fun r =>
      { r with commanded := false }

/-- COMMANDED_TIMER_EXPIRY (R147). -/
def execCommandedTimerExpiry (p : Port) (s : State) : Host.Outcome State Fault Refusal :=
  s.act fun t => t.commandedDue p

/-- A cooldown timer runs out: COOLDOWN becomes WAITING. -/
def Part.cooldownDue (s : Part) (p : Port) : Part :=
  match (s.module p).cooldownTimer with
  | none => s
  | some t =>
    if (s.module p).state = .cooldown then (s.elapseTo t).enterWaiting p
    else (s.elapseTo t).updModule p fun m => { m with cooldownTimer := none }

/-- COOLDOWN_TIMER_EXPIRY (R150). -/
def execCooldownTimerExpiry (p : Port) (s : State) : Host.Outcome State Fault Refusal :=
  s.act fun t => t.cooldownDue p

/-- A steady timer runs out: the loss count is 0. -/
def Part.steadyDue (s : Part) (p : Port) : Part :=
  match (s.module p).steadyTimer with
  | none => s
  | some t => (s.elapseTo t).updModule p fun m => { m with steadyTimer := none, loss := 0 }

/-- STEADY_TIMER_EXPIRY (R154). -/
def execSteadyTimerExpiry (p : Port) (s : State) : Host.Outcome State Fault Refusal := s.act fun t => t.steadyDue p

end Sys2Proof.Machine
end

