-- ==== Sys2Proof/Machine/Load.lean ====
section
/-!
DEFINITION. Writing records into table memory (R163, R184) and the load engine (R183 to R185).
-/

namespace Sys2Proof.Machine

/-! ### Port records (R40, R144, R151, R155, R162, R163) -/

def Part.setPort (s : Part) (p : Port) (r : PortRecord) : Part :=
  { s with tables := { s.tables with ports := s.tables.ports.set p r } }

/-- A record that keeps the MODULE role acts on the port's notes and presence (order DEDUCED, log 23). Its divisor leaves
started as it is, also from OFF to another (DEDUCED, log 31). -/
def Part.keepModule (s : Part) (p : Port) (old new : ModuleFields) : Part :=
  ((((s.setPort p (.modulePort new)).budgetCut p new.voiceBudget).changeBackup p old).changePolicy p).changeFlapLimit p

/-- Step 1 of a role change: the port gives up its old role (R163). -/
def Part.quitRole (s : Part) (p : Port) : Part :=
  ((if s.isUp p then s.leaveUp p .down else s).enterDown p).updLink p fun l => { l with faultHold := none }

/-- Step 2 of a role change: the blocks take the port up with fresh state (R32, R36, R70, R125, R161). -/
def Part.freshRole (s : Part) (p : Port) (r : PortRecord) : Part :=
  let t := (((s.setPort p r).freshModule p).freshSettle p).setStarted p false
  let u := { t with notes := { t.notes with deferOverflow := upd t.notes.deferOverflow p fun _ => 0 } }
  match r with
  | .controller => u.freshSustain p
  | .off | .modulePort _ | .band _ | .console _ | .timing _ => u

/-- Step 3 of a role change: the port's new phase (R163). -/
def Part.takeRole (s : Part) (p : Port) : Part :=
  if s.role p = .off then s.updLink p fun l => { l with phase := .off }
  else if (s.link p).carrier then s.enterIdent p
  else s.enterDown p

/-- A port record is written. -/
def Part.writePort (s : Part) (p : Port) (new : PortRecord) : Part :=
  if (s.port p).role = new.role then
    match s.port p, new with
    | .modulePort o, .modulePort n => s.keepModule p o n
    | _, _ => s.setPort p new
  else (((s.quitRole p).freshRole p new).takeRole p).closeDrain

/-! ### Any record -/

def setAt {α : Type} {n : Nat} (v : Vector α n) (i : Nat) (x : α) : Vector α n := v.setIfInBounds i x

/-- A record is written to table memory at its index as one write, and acts from that write (R184). -/
def Part.writeRecord (s : Part) (i : Nat) (r : Record) : Part :=
  match r with
  | .port x =>
    match portOf i with
    | some p => s.writePort p x
    | none => s
  | .curve x => { s with tables := { s.tables with curves := setAt s.tables.curves i x } }
  | .pedal x => s.writePedal x
  | .setlist x => { s with tables := { s.tables with setlist := x } }
  | .song x => { s with tables := { s.tables with songs := setAt s.tables.songs i x } }
  | .scene x => { s with tables := { s.tables with scenes := setAt s.tables.scenes i x } }

/-! ### The load engine (R183 to R185) -/

/-- Words a load still expects. -/
def Load.expected (l : Load) : Nat := l.left * l.table.recordLength - l.words.length

def Part.setLoad (s : Part) (l : Option Load) : Part := { s with console := { s.console with load := l } }

/-- A load after a record is written: none when no records are left. -/
def Load.advance (l : Load) : Option Load :=
  if l.left ≤ 1 then none
  else some { l with next := l.next + 1, left := l.left - 1, words := [], written := l.written + 1 }

/-- What became of the words of a request: the result, and the records the load has written. -/
structure Fed where
  result : Result
  written : Nat
  deriving DecidableEq, Repr

/-- The words of a request join the load in order; each complete record is checked and written at once (R184). Words
beyond the load are discarded (R185). `written` is the load's count so far. -/
def Part.feed (s : Part) (written : Nat) : List Word → Part × Fed
  | [] => (s, { result := .done, written := written })
  | w :: rest =>
    match s.console.load with
    | none => (s, { result := .tooLong, written := written })
    | some l =>
      let words := l.words ++ [w]
      if words.length < l.table.recordLength then (s.setLoad (some { l with words := words })).feed written rest
      else match recordOfWords l.table words with
        | .error e => (s.setLoad none, { result := e, written := written })
        | .ok r => ((s.setLoad l.advance).writeRecord l.next r).feed (written + 1) rest

/-- The counts a load reply carries (R184, 12.3): of the load in progress. With none, the words expected are 0, and the
records written, for which the manual states no value, are a free value (log 8). -/
def Part.loadCounts (s : Part) : Part × List Word :=
  match s.console.load with
  | some l => (s, [word l.written, word l.expected])
  | none =>
    let r := s.freshValue
    (r.2, [word (r.1 % 128), 0])

/-- A load reply that takes no words. -/
def Part.loadRefusal (s : Part) (p : Port) (kind : Nat) (tag : Byte) (r : Result) : Part :=
  let c := s.loadCounts
  c.1.reply p kind tag r c.2

/-- LOAD DATA and LOAD RUN from a CONSOLE port in UP: `words` are none where the count is out of range (R184, R185;
order DEDUCED, log 18). -/
def Part.loadWords (s : Part) (p : Port) (kind : Nat) (tag : Byte) (words : Option (List Word)) : Part :=
  if s.console.owner ≠ some p then s.loadRefusal p kind tag .notOwner
  else match words with
    | none => s.loadRefusal p kind tag .badValue
    | some ws =>
      if s.console.commit.isSome then s.loadRefusal p kind tag .busy
      else match s.console.load with
        | none => s.loadRefusal p kind tag .notExpected
        | some l =>
          let r := s.feed l.written ws
          let left := match r.1.console.load with
            | some l' => l'.expected
            | none => 0
          r.1.reply p kind tag r.2.result [word r.2.written, word left]

/-- The index check of a LOAD BEGIN (R183). -/
def TableId.inRange (t : TableId) (first count : Nat) : Bool :=
  1 ≤ count && count ≤ 64 && first + count ≤ t.records

/-- LOAD BEGIN from a CONSOLE port in UP (R183, R185). -/
def Part.beginLoad (s : Part) (p : Port) (tag : Byte) (args : Option LoadBeginArgs) : Part :=
  if s.console.owner ≠ some p then s.reply p 2 tag .notOwner
  else match args with
    | none => s.reply p 2 tag .badValue
    | some a =>
      if s.console.commit.isSome then s.reply p 2 tag .busy
      else
        let t := s.setLoad none
        match tableOf a.table with
        | none => t.reply p 2 tag .badTable
        | some id =>
          if id.inRange a.first a.count then
            (t.setLoad (some { owner := p, table := id, next := a.first, left := a.count, words := [],
                               written := 0 })).reply p 2 tag .done
          else t.reply p 2 tag .badIndex

end Sys2Proof.Machine
end

