-- ==== Sys2Proof/Machine/Console.lean ====
section
/-!
DEFINITION. The requests of CONSOLE ports (chapter 10), the commit, and their replies (12.3, 12.5).
-/

namespace Sys2Proof.Machine

/-- A REQUEST that LINK dispatches: taken from a CONSOLE port in UP (R170, R179). -/
def Part.request (s : Part) (p : Port) (body : Part → Part) : Part := s.accept p .console body

/-- A request's effect with its result, and the reply after the notices of its event (R179). -/
def Part.answer (r : Part × Result) (p : Port) (kind : Nat) (tag : Byte) : Part := r.1.reply p kind tag r.2

/-! ### The claim (R181, R182) -/

/-- The priority-console flag of a port's record. -/
def Part.priorityConsole (s : Part) (p : Port) : Bool :=
  match s.port p with
  | .console b => b
  | .off | .controller | .modulePort _ | .band _ | .timing _ => false

/-- A CLAIM by the owner, FORCE and priority flag (R181). -/
def Part.claimBy (s : Part) (p : Port) (force : Bool) : Part × Result :=
  match s.console.owner with
  | none => (s.setOwner (some p), .done)
  | some q =>
    if q = p then (s, .done)
    else if force && s.priorityConsole p then (s.setOwner (some p), .done)
    else (s, .claimedElsewhere)

/-- CLAIM (R181). -/
def execClaim (p : Port) (tag : Byte) (args : List Word) (s : State) : Host.Outcome State Fault Refusal :=
  s.act fun t => t.request p fun u =>
    match claimArgs args with
    | none => u.reply p 0 tag .badValue
    | some force => Part.answer (u.claimBy p force) p 0 tag

/-- RELEASE (R182). -/
def execRelease (p : Port) (tag : Byte) (s : State) : Host.Outcome State Fault Refusal :=
  s.act fun t => t.request p fun u =>
    if u.console.owner = some p then (u.setOwner none).reply p 1 tag .done else u.reply p 1 tag .notOwner

/-! ### Loads (R183 to R185) -/

/-- LOAD_BEGIN (R183). -/
def execLoadBegin (p : Port) (tag : Byte) (args : List Word) (s : State) : Host.Outcome State Fault Refusal :=
  s.act fun t => t.request p fun u => u.beginLoad p tag (loadBeginArgs args)

/-- LOAD_DATA (R184). -/
def execLoadData (p : Port) (tag : Byte) (args : List Word) (s : State) : Host.Outcome State Fault Refusal :=
  s.act fun t => t.request p fun u => u.loadWords p 3 tag (loadDataArgs args)

/-- LOAD_RUN (R184). -/
def execLoadRun (p : Port) (tag : Byte) (args : List Word) (s : State) : Host.Outcome State Fault Refusal :=
  s.act fun t => t.request p fun u => u.loadWords p 4 tag (loadRunArgs args)

/-! ### Reading (R46, R156, R186 to R188) -/

/-- The reply to a READ (R186). -/
def Part.readRecord (s : Part) (a : ReadArgs) : Result × List Word :=
  match tableOf a.table with
  | none => (.badTable, [])
  | some id =>
    match s.tables.record id a.index with
    | none => (.badIndex, [])
    | some r =>
      (.done, [word (at_ id.code 12 + a.index), word (at_ id.recordLength 8 + a.offset)]
        ++ (r.toWords.drop a.offset).take 12)

/-- READ (R186). -/
def execRead (p : Port) (tag : Byte) (args : List Word) (s : State) : Host.Outcome State Fault Refusal :=
  s.act fun t => t.request p fun u =>
    match readArgs args with
    | none => u.reply p 5 tag .badValue
    | some a => u.reply p 5 tag (u.readRecord a).1 (u.readRecord a).2

/-- READ_NOTES (R46). -/
def execReadNotes (p : Port) (tag : Byte) (args : List Word) (s : State) : Host.Outcome State Fault Refusal :=
  s.act fun t => t.request p fun u =>
    match readNotesArgs args with
    | none => u.reply p 6 tag .badValue
    | some start => u.reply p 6 tag .done (u.readNotesWords start)

/-- READ_BLACK_BOX (R156). -/
def execReadBlackBox (p : Port) (tag : Byte) (s : State) : Host.Outcome State Fault Refusal :=
  s.act fun t => t.request p fun u => u.reply p 7 tag .done (blackBoxWords u.watch.blackBox)

/-- The ten words of STATUS (R187, 12.5). -/
def Part.statusWords (s : Part) : List Word :=
  [s.flagWord] ++ s.transportWords ++ placeWords s.setlist.position s.setlist.place s.currentNumber
    ++ pendingWords s.setlist.pending
    ++ [word (at_ (portCode s.console.owner) 12 + bitAt s.console.load.isSome 11 + bitAt s.console.commit.isSome 10
          + bitAt s.console.drain.isSome 9 + s.notes.entries.length)]

/-- STATUS (R187). -/
def execStatus (p : Port) (tag : Byte) (s : State) : Host.Outcome State Fault Refusal :=
  s.act fun t => t.request p fun u => u.reply p 8 tag .done u.statusWords

def Phase.code : Phase → Nat
  | .off => 0
  | .down => 1
  | .ident => 2
  | .up => 3
  | .refused => 4

/-- The words of PORT STATUS: 4, and 6 more for a MODULE port (R188, 12.5). -/
def Part.portWords (s : Part) (q : Port) : List Word :=
  let l := s.link q
  let m := s.module q
  [ word (at_ q.val 12 + at_ (s.role q).code 8 + l.phase.code), word l.frameFaults, word l.losses, word l.unexpected ]
    ++ (if s.role q = .modulePort then
      [ m.word6, word (s.kept q + at_ m.peak 8), word m.worstGap, word s.scene.expiries[q]
      , word s.notes.deferOverflow[q], word (portCode (s.substitute q)) ]
    else [])

/-- PORT_STATUS (R188). -/
def execPortStatus (p : Port) (tag : Byte) (args : List Word) (s : State) : Host.Outcome State Fault Refusal :=
  s.act fun t => t.request p fun u =>
    match portArgs args with
    | none => u.reply p 9 tag .badValue
    | some n =>
      match portOf n with
      | none => u.reply p 9 tag .badIndex
      | some q => u.reply p 9 tag .done (u.portWords q)

/-! ### The commit (R189, R190) -/

def Part.setCommit (s : Part) (c : Option Commit) : Part := { s with console := { s.console with commit := c } }

/-- A COMMIT (R189). -/
def Part.takeCommit (s : Part) (p : Port) (tag : Byte) : Part :=
  if s.console.owner ≠ some p then s.reply p 10 tag .notOwner
  else if s.console.commit.isSome then s.reply p 10 tag .busy
  else if s.console.load.isSome then s.reply p 10 tag .busy
  else s.setCommit (some { port := p, tag := tag, writing := false })

/-- COMMIT (R189). -/
def execCommit (p : Port) (tag : Byte) (s : State) : Host.Outcome State Fault Refusal :=
  s.act fun t => t.request p fun u => u.takeCommit p tag

/-- The comparison ends (R189, R190). An invalid stored set equals no image (DEDUCED, log 24). -/
def Part.compareEnd (s : Part) : Part :=
  match s.console.commit with
  | some c =>
    if c.writing then s
    else if s.stored = some s.tables then (s.setCommit none).reply c.port 10 c.tag .unchanged
    else s.setCommit (some { c with writing := true })
  | none => s

/-- COMMIT_COMPARE_END (R189). -/
def execCommitCompareEnd (s : State) : Host.Outcome State Fault Refusal := s.act Part.compareEnd

/-- The write and the read-back end (R190). -/
def Part.writeEnd (s : Part) (readBackEqual : Bool) : Part :=
  match s.console.commit with
  | some c =>
    if c.writing then
      let t := s.setCommit none
      if readBackEqual then ({ t with stored := some t.tables }).reply c.port 10 c.tag .stored
      else (({ t with stored := none }).raise .commitFailed).reply c.port 10 c.tag .verifyFailed
    else s
  | none => s

/-- COMMIT_END (R190). -/
def execCommitEnd (readBackEqual : Bool) (s : State) : Host.Outcome State Fault Refusal :=
  s.act fun t => t.writeEnd readBackEqual

/-! ### Changes, transport and tempo (R77 to R81, R97 to R99, R106) -/

/-- The reply result of a SELECT (R81). -/
def Outcome.result : Outcome → Result
  | .noChange => .noChange
  | .refused why => why
  | .stored => .takenIn
  | .taken => .done

/-- SELECT (R81). -/
def execSelect (p : Port) (tag : Byte) (args : List Word) (s : State) : Host.Outcome State Fault Refusal :=
  s.act fun t => t.request p fun u =>
    match selectArgs args with
    | none => u.reply p 11 tag .badValue
    | some a =>
      let r := u.submit { source := .console p, target := a.target, boundary := a.boundary, priority := a.priority }
      (finish (r.1, r.2.1)).reply p 11 tag r.2.2.result

/-- A console TRANSPORT START (R97). -/
def Part.consoleStart (s : Part) : Part × Result :=
  if s.tempo.followSong then (s, .notExpected)
  else match s.tempo.transport with
    | .stopped => (finish s.start, .done)
    | .countingIn _ | .running => (s, .noChange)

/-- TRANSPORT_START (R97). -/
def execTransportStart (p : Port) (tag : Byte) (s : State) : Host.Outcome State Fault Refusal :=
  s.act fun t => t.request p fun u => Part.answer u.consoleStart p 12 tag

/-- A console TRANSPORT STOP (R97, R98). -/
def Part.consoleStop (s : Part) : Part × Result :=
  if s.tempo.followSong then (s, .notExpected)
  else match s.tempo.transport with
    | .stopped => (s, .noChange)
    | .countingIn _ | .running => (finish s.stop, .done)

/-- TRANSPORT_STOP (R98). -/
def execTransportStop (p : Port) (tag : Byte) (s : State) : Host.Outcome State Fault Refusal :=
  s.act fun t => t.request p fun u => Part.answer u.consoleStop p 12 tag

/-- A console TRANSPORT TO START (R99). -/
def Part.consoleToStart (s : Part) : Part × Result :=
  match s.tempo.transport with
  | .stopped => (s.jumpTo 1 1, .done)
  | .countingIn _ | .running => (s, .busy)

/-- TRANSPORT_TO_START (R99). -/
def execTransportToStart (p : Port) (tag : Byte) (s : State) : Host.Outcome State Fault Refusal :=
  s.act fun t => t.request p fun u => Part.answer u.consoleToStart p 12 tag

/-- A console override, refused in a FOLLOW song (R106). -/
def Part.consoleOverride (s : Part) (v : Option Nat) : Part × Result :=
  if s.tempo.followSong then (s, .notExpected) else (s.setOverride v, .done)

/-- TEMPO_SET (R106). -/
def execTempoSet (p : Port) (tag : Byte) (args : List Word) (s : State) : Host.Outcome State Fault Refusal :=
  s.act fun t => t.request p fun u =>
    match tempoSetArgs args with
    | none => u.reply p 13 tag .badValue
    | some x => Part.answer (u.consoleOverride (some (clamp Config.tempoLow Config.tempoHigh x))) p 13 tag

/-- TEMPO_CLEAR (R106). -/
def execTempoClear (p : Port) (tag : Byte) (s : State) : Host.Outcome State Fault Refusal :=
  s.act fun t => t.request p fun u => Part.answer (u.consoleOverride none) p 14 tag

/-! ### Modules (R147, R148, R153, R157) -/

/-- A request that names a MODULE port; BAD INDEX where the port's role is another (R147, R148, R153). -/
def Part.onModule (s : Part) (n : Nat) (body : Port → Part × Result) : Part × Result :=
  match portOf n with
  | none => (s, .badIndex)
  | some q => if s.role q = .modulePort then body q else (s, .badIndex)

/-- TAKE_OUT (R147). -/
def execTakeOut (p : Port) (tag : Byte) (args : List Word) (s : State) : Host.Outcome State Fault Refusal :=
  s.act fun t => t.request p fun u =>
    match takeOutArgs args with
    | none => u.reply p 15 tag .badValue
    | some a => Part.answer (u.onModule a.port fun q => u.takeOutModule q a.duration) p 15 tag

/-- RETURN (R148). -/
def execReturnModule (p : Port) (tag : Byte) (args : List Word) (s : State) : Host.Outcome State Fault Refusal :=
  s.act fun t => t.request p fun u =>
    match portArgs args with
    | none => u.reply p 16 tag .badValue
    | some n => Part.answer (u.onModule n fun q => u.returnCommanded q) p 16 tag

/-- CLEAR_FLAGS (R194). -/
def execClearFlags (p : Port) (tag : Byte) (s : State) : Host.Outcome State Fault Refusal :=
  s.act fun t => t.request p fun u =>
    ({ u with console := { u.console with flags := .clear } }).reply p 17 tag .done

/-- CLEAR_PEAKS (R157). -/
def execClearPeaks (p : Port) (tag : Byte) (s : State) : Host.Outcome State Fault Refusal :=
  s.act fun t => t.request p fun u => u.clearPeaksAll.reply p 17 tag .done

/-- CLEAR_BLACK_BOX (R156). -/
def execClearBlackBox (p : Port) (tag : Byte) (s : State) : Host.Outcome State Fault Refusal :=
  s.act fun t => t.request p fun u =>
    ({ u with watch := { u.watch with blackBox := none } }).reply p 17 tag .done

/-- CLEAR_MODULE (R153). -/
def execClearModule (p : Port) (tag : Byte) (target : BitVec 4) (s : State) : Host.Outcome State Fault Refusal :=
  s.act fun t => t.request p fun u =>
    Part.answer (u.onModule target.toNat fun q => (u.clearLoss q, .done)) p 17 tag

/-- The counters of a port become 0 (R177, R180). -/
def Part.clearCounters (s : Part) (q : Port) : Part :=
  let t := s.updLink q fun l => { l with frameFaults := 0, losses := 0, unexpected := 0 }
  if s.role q = .modulePort then
    { t with
      notes := { t.notes with deferOverflow := upd t.notes.deferOverflow q fun _ => 0 }
      scene := { t.scene with expiries := upd t.scene.expiries q fun _ => 0 } }
  else t

/-- CLEAR_COUNTS (R177, R180). -/
def execClearCounts (p : Port) (tag : Byte) (target : BitVec 4) (s : State) : Host.Outcome State Fault Refusal :=
  s.act fun t => t.request p fun u =>
    match portOf target.toNat with
    | none => u.reply p 17 tag .badIndex
    | some q => (u.clearCounters q).reply p 17 tag .done

/-! ### Notice masks, PANIC, RESTART, unknown kinds (R37, R179, R193, R195) -/

/-- NOTICE_MASK (R195). -/
def execNoticeMask (p : Port) (tag : Byte) (args : List Word) (s : State) : Host.Outcome State Fault Refusal :=
  s.act fun t => t.request p fun u =>
    match noticeMaskArgs args with
    | none => u.reply p 18 tag .badValue
    | some m =>
      ({ u with console := { u.console with masks := upd u.console.masks p fun _ => m } }).reply p 18 tag .done
        [m.setWidth 16]

/-- PANIC (R37, R180). -/
def execPanic (p : Port) (tag : Byte) (s : State) : Host.Outcome State Fault Refusal :=
  s.act fun t => t.request p fun u => u.panic.reply p 19 tag .done

/-- A RESTART (R193). -/
def Part.takeRestart (s : Part) (p : Port) (tag : Byte) : Part :=
  if s.console.owner ≠ some p then s.reply p 20 tag .notOwner
  else if s.console.commit.isSome then s.reply p 20 tag .busy
  else if s.console.drain.isSome then s.reply p 20 tag .busy
  else s.startDrain p tag

/-- RESTART (R193). -/
def execRestart (p : Port) (tag : Byte) (s : State) : Host.Outcome State Fault Refusal :=
  s.act fun t => t.request p fun u => u.takeRestart p tag

/-- UNKNOWN_REQUEST (R179): BAD VALUE, the kind code echoed. -/
def execUnknownRequest (p : Port) (kind tag : Byte) (s : State) : Host.Outcome State Fault Refusal :=
  s.act fun t => t.request p fun u => u.reply p kind.toNat tag .badValue

end Sys2Proof.Machine
end

