-- ==== Sys2Proof/Machine/Startup.lean ====
section
/-!
DEFINITION. Device reset and start-up (R178, R191, R192), and the events that are due of themselves (R94, R127 and the
timers; log 2).
-/

namespace Sys2Proof.Machine

/-! ### Device reset (R191) -/

/-- The stored set after a device reset: a reset during WRITING leaves an image whose check fails (R190). -/
def Part.storedAfterReset (s : Part) : Option Tables :=
  match s.console.commit with
  | some c => if c.writing then none else s.stored
  | none => s.stored

/-- The part after a device reset: the reset values, with what lies outside them kept: the stored set, the carriers and
the pin levels as they stand (log 6), and the count of free values (log 8). -/
def Part.deviceReset (s : Part) (powerOn : Bool) : Part :=
  { Part.reset with
    stored := s.storedAfterReset
    links := s.links.map fun l => { LinkPort.reset with carrier := l.carrier }
    pedal := { PedalState.reset with levels := s.pedal.levels }
    console := { ConsoleState.reset with cause := if powerOn then .powerOn else .resetLine }
    free := s.free }

/-- DEVICE_RESET (R191). -/
def execDeviceReset (powerOn : Bool) (s : State) : Host.Outcome State Fault Refusal := s.act fun t => t.deviceReset powerOn

/-! ### The store load (R191) -/

/-- Table memory at the end of the store load: the stored image, or the defaults with STORE INVALID raised. -/
def Part.takeImage (s : Part) : Part :=
  match s.stored with
  | some ts => { s with tables := ts }
  | none => ({ s with tables := .default }).raise .storeInvalid

/-- A port after the store load: OFF, IDENT where carrier is present, else DOWN (R178). -/
def Part.startPortLink (s : Part) (p : Port) : Part :=
  if s.role p = .off then s.updLink p fun l => { l with phase := .off }
  else if (s.link p).carrier then s.enterIdent p
  else s

/-- The store load completes: the blocks take their start-up values, SCENE builds the first CURRENT, and the links
begin. -/
def Part.storeLoad (s : Part) : Part :=
  if s.starting then
    let t := s.takeImage.startSetlist.startTempo.firstScene
    allPorts.foldl Part.startPortLink { t with starting := false }
  else s

/-- STORE_LOAD (R191). -/
def execStoreLoad (s : State) : Host.Outcome State Fault Refusal := s.act Part.storeLoad

/-! ### Events that are due (log 2, log 26) -/

/-- A deadline that has come. -/
def Part.reached (s : Part) (t : Option Nat) : Bool :=
  match t with
  | some x => x ≤ s.now
  | none => false

/-- The first due event of one port, in the order of log 26. -/
def Part.portDue (s : Part) (p : Port) : Option Instr :=
  let l := s.link p
  let m := s.module p
  if s.reached l.faultHold then some (.faultHoldExpiry p)
  else if s.reached l.identTimer then some (.identTimerExpiry p)
  else if s.reached l.refusalTimer then some (.refusalTimerExpiry p)
  else if s.reached (s.scene.settle[p].map Settle.timer) then some (.settleTimerExpiry p)
  else if s.reached m.presenceTimer then some (.presenceTimerExpiry p)
  else if s.reached m.commandedTimer then some (.commandedTimerExpiry p)
  else if s.reached m.cooldownTimer then some (.cooldownTimerExpiry p)
  else if s.reached m.steadyTimer then some (.steadyTimerExpiry p)
  else none

/-- A free transmitter has a frame to pass. -/
def Part.emissionDue (s : Part) (p : Port) : Bool := s.choice p != .nothing && (s.link p).freeAt ≤ s.now

/-- A sample of the pedal lines is due: none has been taken at this whole millisecond (R127). -/
def Part.sampleDue (s : Part) : Bool := !s.starting && s.nextSample * Config.msec ≤ s.now

/-- The drain is in progress and the table is empty. -/
def Part.drainDue (s : Part) : Bool := s.console.drain.isSome && s.notes.entries.isEmpty

/-- The first event that is due at this moment, if any (log 26). -/
def Part.firstDue (s : Part) : Option Instr :=
  if s.drainDue then some .drainEnd
  else match allPorts.findSome? s.portDue with
    | some i => some i
    | none =>
      if s.reached s.tempo.sourceTimer then some .sourceTimerExpiry
      else if s.reached (s.click.cue.map SoundingCue.timer) then some .cueTimerExpiry
      else if s.accRuns && !s.tickedNow && tickInterval s.effectiveTempo ≤ s.tempo.acc then some .accumulatorTick
      else if s.sampleDue then some (.pedalSample s.pedal.levels)
      else (allPorts.find? s.emissionDue).map Instr.emissionChoice

end Sys2Proof.Machine
end

