-- ==== Sys2Proof/Machine/Dispatch.lean ====
section
/-!
DEFINITION. exec: one arm for each command, each one call of its meaning.
-/

namespace Sys2Proof.Machine

def exec (i : Instr) (s : State) : Host.Outcome State Fault Refusal :=
  match i with
  | .deviceReset powerOn => Sys2Proof.Machine.execDeviceReset powerOn s
  | .storeLoad => Sys2Proof.Machine.execStoreLoad s
  | .pedalSample levels => Sys2Proof.Machine.execPedalSample levels s
  | .carrierPresent p => Sys2Proof.Machine.execCarrierPresent p s
  | .carrierLost p => Sys2Proof.Machine.execCarrierLost p s
  | .faultHoldExpiry p => Sys2Proof.Machine.execFaultHoldExpiry p s
  | .identTimerExpiry p => Sys2Proof.Machine.execIdentTimerExpiry p s
  | .refusalTimerExpiry p => Sys2Proof.Machine.execRefusalTimerExpiry p s
  | .ident wait p offered => Sys2Proof.Machine.execIdent wait p offered s
  | .frameFault wait p => Sys2Proof.Machine.execFrameFault wait p s
  | .unexpectedFrame p => Sys2Proof.Machine.execUnexpectedFrame p s
  | .keyDown p key strike => Sys2Proof.Machine.execKeyDown p key strike s
  | .keyUp p key strike => Sys2Proof.Machine.execKeyUp p key strike s
  | .pressure p key value => Sys2Proof.Machine.execPressure p key value s
  | .control p controller value => Sys2Proof.Machine.execControl p controller value s
  | .sustain p value => Sys2Proof.Machine.execSustain p value s
  | .presenceReady wait p => Sys2Proof.Machine.execPresenceReady wait p s
  | .presenceSettling wait p => Sys2Proof.Machine.execPresenceSettling wait p s
  | .presenceFault wait p => Sys2Proof.Machine.execPresenceFault wait p s
  | .sourceClock wait p => Sys2Proof.Machine.execSourceClock wait p s
  | .transportStartFrame p => Sys2Proof.Machine.execTransportStartFrame p s
  | .transportStopFrame p => Sys2Proof.Machine.execTransportStopFrame p s
  | .positionFrame p bar beat => Sys2Proof.Machine.execPositionFrame p bar beat s
  | .emissionChoice p => Sys2Proof.Machine.execEmissionChoice p s
  | .accumulatorTick => Sys2Proof.Machine.execAccumulatorTick s
  | .sourceTimerExpiry => Sys2Proof.Machine.execSourceTimerExpiry s
  | .cueTimerExpiry => Sys2Proof.Machine.execCueTimerExpiry s
  | .settleTimerExpiry p => Sys2Proof.Machine.execSettleTimerExpiry p s
  | .presenceTimerExpiry p => Sys2Proof.Machine.execPresenceTimerExpiry p s
  | .commandedTimerExpiry p => Sys2Proof.Machine.execCommandedTimerExpiry p s
  | .cooldownTimerExpiry p => Sys2Proof.Machine.execCooldownTimerExpiry p s
  | .steadyTimerExpiry p => Sys2Proof.Machine.execSteadyTimerExpiry p s
  | .commitCompareEnd => Sys2Proof.Machine.execCommitCompareEnd s
  | .commitEnd readBackEqual => Sys2Proof.Machine.execCommitEnd readBackEqual s
  | .drainEnd => Sys2Proof.Machine.execDrainEnd s
  | .claim p tag args => Sys2Proof.Machine.execClaim p tag args s
  | .release p tag => Sys2Proof.Machine.execRelease p tag s
  | .loadBegin p tag args => Sys2Proof.Machine.execLoadBegin p tag args s
  | .loadData p tag args => Sys2Proof.Machine.execLoadData p tag args s
  | .loadRun p tag args => Sys2Proof.Machine.execLoadRun p tag args s
  | .read p tag args => Sys2Proof.Machine.execRead p tag args s
  | .readNotes p tag args => Sys2Proof.Machine.execReadNotes p tag args s
  | .readBlackBox p tag => Sys2Proof.Machine.execReadBlackBox p tag s
  | .status p tag => Sys2Proof.Machine.execStatus p tag s
  | .portStatus p tag args => Sys2Proof.Machine.execPortStatus p tag args s
  | .commit p tag => Sys2Proof.Machine.execCommit p tag s
  | .select p tag args => Sys2Proof.Machine.execSelect p tag args s
  | .transportStart p tag => Sys2Proof.Machine.execTransportStart p tag s
  | .transportStop p tag => Sys2Proof.Machine.execTransportStop p tag s
  | .transportToStart p tag => Sys2Proof.Machine.execTransportToStart p tag s
  | .tempoSet p tag args => Sys2Proof.Machine.execTempoSet p tag args s
  | .tempoClear p tag => Sys2Proof.Machine.execTempoClear p tag s
  | .takeOut p tag args => Sys2Proof.Machine.execTakeOut p tag args s
  | .returnModule p tag args => Sys2Proof.Machine.execReturnModule p tag args s
  | .clearFlags p tag => Sys2Proof.Machine.execClearFlags p tag s
  | .clearPeaks p tag => Sys2Proof.Machine.execClearPeaks p tag s
  | .clearBlackBox p tag => Sys2Proof.Machine.execClearBlackBox p tag s
  | .clearModule p tag target => Sys2Proof.Machine.execClearModule p tag target s
  | .clearCounts p tag target => Sys2Proof.Machine.execClearCounts p tag target s
  | .noticeMask p tag args => Sys2Proof.Machine.execNoticeMask p tag args s
  | .panic p tag => Sys2Proof.Machine.execPanic p tag s
  | .restart p tag => Sys2Proof.Machine.execRestart p tag s
  | .unknownRequest p kind tag => Sys2Proof.Machine.execUnknownRequest p kind tag s

end Sys2Proof.Machine
end

