-- ==== Sys2Proof/Safety.lean ====
section
/-!
DEFINITION. How statements speak of the part: a command that completes, the laws the manual states of every state, and
the predicates they are made of.
-/

namespace Sys2Proof.Machine

/-! ### Completion -/

/-- The state with another part and the same queue. -/
def State.becomes (s : State) (p : Part) : State := { s with part := p }

/-- A command completes from a state: exec answers a next state with the queue as it was, and `P` holds of the part
there. -/
def Completes (c : Instr) (s : State) (P : Part → Prop) : Prop :=
  ∃ p : Part, exec c s = .next { part := p, pending := s.pending } ∧ P p

/-! ### Laws of output queues (R171) -/

/-- The frame is a KEY UP. -/
def Frame.isKeyUp : Frame → Bool
  | .keyUp .. => true
  | .ident _ | .keyDown .. | .pressure .. | .control .. | .preset .. | .clock | .transport _ | .click .. | .cue ..
  | .reply .. | .notice .. => false

/-- No output queue holds more than 32 frames or any KEY UP frame. -/
def Part.QueuesHold (s : Part) : Prop :=
  ∀ p : Port, (s.link p).queue.length ≤ 32 ∧ ∀ it ∈ (s.link p).queue, it.frame.isKeyUp = false

/-! ### Laws of the start-up (R178) -/

/-- While the store load runs every port is DOWN with its timers stopped, every presence record and map entry is as at
device reset, and the note table is empty. -/
def Part.StartHolds (s : Part) : Prop :=
  s.starting = true →
    s.notes.entries = [] ∧
    ∀ p : Port, (s.link p).phase = .down ∧ (s.link p).faultHold = none ∧ (s.link p).refusalTimer = none ∧
      s.module p = .reset ∧ s.substitute p = none ∧ s.isSettling p = false

/-! ### Laws of table memory (R3, R23, R72, R137) -/

/-- A song record's tempo map is as R72 stores it. -/
def SongRecord.TimesOk (r : SongRecord) : Prop :=
  (∀ e ∈ r.tempoMap, 3000 ≤ e.tempo ∧ e.tempo ≤ 30000 ∧ 1 ≤ e.numerator ∧ e.numerator ≤ 15) ∧
    r.tempoMap.head?.map TempoEntry.bar = some 1

/-- Every song record's tempo map is as R72 stores it. -/
def Tables.TimesOk (ts : Tables) : Prop := ∀ n : SongNo, ts.songs[n].TimesOk

/-- A port record's voice budget and flap limit are as R23 and R137 store them. -/
def PortRecord.LimitsOk : PortRecord → Prop
  | .modulePort m => 1 ≤ m.voiceBudget ∧ m.voiceBudget ≤ 128 ∧ 1 ≤ m.flapLimit ∧ m.flapLimit ≤ 8
  | .off | .controller | .band _ | .console _ | .timing _ => True

/-- Every port record's voice budget and flap limit are as R23 and R137 store them. -/
def Tables.LimitsOk (ts : Tables) : Prop := ∀ p : Port, ts.ports[p].LimitsOk

/-- A law of table memory that the stored set keeps too. -/
def Part.Stored (s : Part) (ok : Tables → Prop) : Prop :=
  ok s.tables ∧ match s.stored with
    | some ts => ok ts
    | none => True

/-! ### Laws of TEMPO (R93) -/

/-- A tempo within 3000-30000 centi-BPM. -/
def TempoOk (t : Nat) : Prop := 3000 ≤ t ∧ t ≤ 30000

/-- Every tempo the part can run at lies within its range, the position within its own, and the tempo maps are as R72
stores them; a FOLLOW song is a song. -/
def Part.TimesHold (s : Part) : Prop :=
  s.Stored Tables.TimesOk ∧
  TempoOk s.tempo.mapTempo ∧ TempoOk s.tempo.firstTempo ∧ TempoOk s.tempo.measured ∧
  (∀ t ∈ s.tempo.override, TempoOk t) ∧
  s.tempo.tick ≤ 47 ∧ 1 ≤ s.tempo.beat ∧ s.tempo.beat ≤ s.tempo.numerator ∧ s.tempo.numerator ≤ 15 ∧
  1 ≤ s.tempo.bar ∧ s.tempo.bar ≤ 9999 ∧
  (s.tempo.followSong = true → s.setlist.place ≠ none)

/-! ### Laws of WATCH (R62, R138, R141, R143) -/

/-- A module's loss count never exceeds its flap limit, and equals it only while the module is BARRED. -/
def Part.LossesHold (s : Part) : Prop :=
  s.Stored Tables.LimitsOk ∧ s.StartHolds ∧
  ∀ p : Port, s.role p = .modulePort →
    (s.module p).loss ≤ (s.moduleFields p).flapLimit ∧
    ((s.module p).loss = (s.moduleFields p).flapLimit → (s.module p).state = .barred)

/-- A module's substitute is its configured backup, is ACTIVE, and has no substitute of its own; the module is out. -/
def Part.SubstitutesHold (s : Part) : Prop :=
  ∀ x b : Port, s.substitute x = some b →
    s.isOut x = true ∧ (s.moduleFields x).backup = some b ∧ b ≠ x ∧
    s.role b = .modulePort ∧ s.isActive b = true ∧ s.substitute b = none

/-- A settling module is ACTIVE; only a MODULE port leaves ABSENT; a module in service or coming back has its link UP, and
an OUT one without it has LINK DOWN among its reasons. -/
def Part.ServiceHolds (s : Part) : Prop :=
  ∀ p : Port,
    (s.isSettling p = true → s.isActive p = true) ∧
    ((s.module p).state ≠ .absent → s.role p = .modulePort) ∧
    ((s.module p).state = .active ∨ (s.module p).state = .recovering ∨ (s.module p).state = .cooldown ∨
      (s.module p).state = .waiting → s.isUp p = true) ∧
    ((s.module p).state = .out ∧ s.isUp p = false → (s.module p).reasons.linkDown = true)

/-- The laws of R62 and R143, with what they rest on. -/
def Part.WatchHolds (s : Part) : Prop := s.StartHolds ∧ s.SubstitutesHold ∧ s.ServiceHolds

/-! ### Laws of the note table (R22, R23, R50) -/

/-- The note table holds at most 256 entries. -/
def Part.TableHolds (s : Part) : Prop := s.notes.entries.length ≤ 256

/-- The generation numbers of CURRENT and a LIVE PRIOR differ; every entry belongs to one of them, and no PRIOR entry is
DEFERRED; PRIOR is LIVE only while it owns an entry. -/
def Part.GenerationsHold (s : Part) : Prop :=
  (∀ e ∈ s.notes.entries, e.isOf s.scene.current = true ∨ (e.isOf s.scene.prior = true ∧ e.isDeferred = false)) ∧
  (∀ g ∈ s.scene.prior,
    (∃ c ∈ s.scene.current, c.number ≠ g.number) ∧ ∃ e ∈ s.notes.entries, e.isOf s.scene.prior = true)

/-- Entry names are used once. -/
def Part.NamesHold (s : Part) : Prop :=
  (s.notes.entries.map Entry.name).Nodup ∧ ∀ e ∈ s.notes.entries, e.name < s.notes.nextName

/-- For any destination, slot and sent key at most one entry is SOUNDING or SUSTAINED, and at most one is DEFERRED. -/
def Part.NotesDistinct (s : Part) : Prop :=
  s.notes.entries.Pairwise fun e f =>
    e.plays f.dest f.slot f.key = true →
      ¬(e.rings = true ∧ f.rings = true) ∧ ¬(e.isDeferred = true ∧ f.isDeferred = true)

/-- The entries destined to a module in DEFERRED, SOUNDING or SUSTAINED never exceed its voice budget, and those in
DEFERRED never exceed 16; every entry is destined to a MODULE port in UP. -/
def Part.BudgetsHold (s : Part) : Prop :=
  ∀ p : Port,
    (s.role p = .modulePort → s.kept p ≤ (s.moduleFields p).voiceBudget) ∧ s.deferredCount p ≤ 16 ∧
    ∀ e ∈ s.notes.entries, e.dest = p → s.role p = .modulePort ∧ s.isUp p = true

/-- The laws of R22 and R23, with the laws of the other blocks that they rest on. -/
def Part.NotesHold (s : Part) : Prop :=
  s.Stored Tables.LimitsOk ∧ s.WatchHolds ∧ s.TableHolds ∧ s.NamesHold ∧ s.GenerationsHold ∧
  s.NotesDistinct ∧ s.BudgetsHold

/-! ### The words of replies and notices (12.3 to 12.5) -/

/-- The weight of a bit that is set for yes. -/
def weight (b : Bool) (n : Nat) : Nat := if b = true then n else 0

/-- A port number or none in four bits, 15 for none. -/
def portBits (p : Option Port) : Nat := p.elim 15 Fin.val

/-- STATUS word 2: the flags from STORE INVALID in bit 0 to CLOCK SOURCE LOST in bit 6, and the reset cause in bits 9-8.
-/
def Part.flagsLayout (s : Part) : Word :=
  let f := s.console.flags
  word (weight f.storeInvalid 1 + weight f.commitFailed 2 + weight f.noteTableFull 4 + weight f.queueOverflow 8
    + weight f.forcedRelease 16 + weight f.steal 32 + weight f.clockSourceLost 64
    + 256 * match s.console.cause with
      | .powerOn => 0
      | .resetLine => 1
      | .restart => 2)

/-- The effective tempo (R95). -/
def Part.tempoNow (s : Part) : Nat :=
  if s.tempo.followSong = true then
    match s.tempo.follow with
    | .waiting => s.tempo.firstTempo
    | .following | .holdover => s.tempo.measured
  else s.tempo.override.getD s.tempo.mapTempo

/-- STATUS words 3 to 6: transport, tempo source state, numerator and the denominator's power of two; bar; beat and tick;
effective tempo. -/
def Part.transportLayout (s : Part) : List Word :=
  let x := s.tempo
  let transport := match x.transport with
    | .stopped => 0
    | .countingIn _ => 1
    | .running => 2
  let source := if x.followSong = true then
      match x.follow with
      | .waiting => 2
      | .following => 3
      | .holdover => 4
    else if x.override = none then 0 else 1
  [ word (transport + source * 4 + x.numerator * 256 + Nat.log2 x.denominator * 4096), word x.bar
  , word (x.beat * 256 + x.tick), word s.tempoNow ]

/-- STATUS words 7 and 8: setlist position with the song, 127 for none; generation number with the scene, 15 for none. -/
def placeLayout (position : Nat) (place : Option Place) (number : Nat) : List Word :=
  [ word (position + (place.elim 127 fun pl => pl.song.val) * 256)
  , word (number + (place.elim 15 fun pl => pl.scene.val) * 256) ]

/-- A boundary's code, and its bar, 0 where it has none. -/
def boundaryBits : Boundary → Nat × Nat
  | .immediate => (0, 0)
  | .nextBeat => (1, 0)
  | .nextBar => (2, 0)
  | .atBar b => (3, b)

/-- STATUS words 9 and 10: target kind, priority, boundary, scene with 15 for FIRST, position; and the bar. -/
def changeLayout : Option PendingChange → List Word
  | none => [0, 0]
  | some r =>
    let common := r.priority * 4096 + (boundaryBits r.boundary).1 * 1024
    let target := match r.target with
      | .song i sc => 16384 + sc.elim 15 Fin.val * 64 + i
      | .scene sc => 2 * 16384 + sc.val * 64
      | .reload => 3 * 16384
    [word (target + common), word (boundaryBits r.boundary).2]

/-- SELECT words 2 and 3: target, boundary, priority and argument; and the bar. -/
def requestLayout (g : Target) (b : Boundary) (priority : Nat) : List Word :=
  let target := match g with
    | .songAt i => 0 + i * 256
    | .nextSong => 1
    | .prevSong => 2
    | .sceneAt k => 3 + k * 256
    | .nextScene => 4
    | .prevScene => 5
    | .reload => 6
  [word (target + (boundaryBits b).1 * 16 + priority * 64), word (boundaryBits b).2]

/-- A source: its class, and its trigger or port from bit 4 up. -/
def sourceBits : Source → Nat
  | .pedal i => i.val * 16
  | .console p => 1 + p.val * 16
  | .cue => 2

/-- Presence states and reasons by their codes (12.4, 12.5). -/
def presenceBits : PresenceState → Nat
  | .absent => 0
  | .active => 1
  | .out => 2
  | .recovering => 3
  | .cooldown => 4
  | .waiting => 5
  | .barred => 6

def reasonBits : Reason → Nat
  | .linkDown => 0
  | .presenceTimeout => 1
  | .faultReported => 2
  | .commanded => 3

/-- PORT STATUS word 6: presence state, reasons from LINK DOWN in bit 9, last reason with 7 for none, loss count. -/
def Presence.layout (m : Presence) : Word :=
  word (presenceBits m.state * 8192 + weight m.reasons.linkDown 512 + weight m.reasons.presenceTimeout 1024
    + weight m.reasons.faultReported 2048 + weight m.reasons.commanded 4096 + m.lastReason.elim 7 reasonBits * 64 + m.loss)

/-- The ten words of STATUS. -/
def Part.statusLayout (s : Part) : List Word :=
  [s.flagsLayout] ++ s.transportLayout
    ++ placeLayout s.setlist.position s.setlist.place (s.scene.current.elim 0 Generation.number)
    ++ changeLayout s.setlist.pending
    ++ [word (portBits s.console.owner * 4096 + weight s.console.load.isSome 2048 + weight s.console.commit.isSome 1024
      + weight s.console.drain.isSome 512 + s.notes.entries.length)]

/-- The words of PORT STATUS: four, and six more for a MODULE port. -/
def Part.portLayout (s : Part) (q : Port) : List Word :=
  let l := s.link q
  let m := s.module q
  let role := match s.role q with
    | .off => 0
    | .controller => 1
    | .modulePort => 2
    | .band => 3
    | .console => 4
    | .timing => 5
  let phase := match l.phase with
    | .off => 0
    | .down => 1
    | .ident => 2
    | .up => 3
    | .refused => 4
  [word (q.val * 4096 + role * 256 + phase), word l.frameFaults, word l.losses, word l.unexpected] ++
    if s.role q = .modulePort then
      [ m.layout, word (s.kept q + m.peak * 256), word m.worstGap, word s.scene.expiries[q]
      , word s.notes.deferOverflow[q], word (portBits (s.substitute q)) ]
    else []

/-- The four words of a READ NOTES entry; the release strike is 0 outside RELEASE OWED. -/
def Entry.layout (e : Entry) : List Word :=
  let cause (c : Cause) : Nat := match c with
    | .keyUp => 0
    | .sustainLift => 1
    | .retrigger => 2
    | .collision => 3
    | .stolen => 4
    | .forced => 5
    | .panic => 6
    | .sourceLost => 7
    | .moduleOut => 8
    | .budgetCut => 9
    | .restart => 10
  let (state, release) : Nat × Nat := match e.state with
    | .deferred => (0, 0)
    | .sounding => (1, 0)
    | .sustained => (2, 0)
    | .owed c r => (3 + cause c, r)
  [ word (e.srcPort.val * 4096 + e.zone * 256 + weight e.pending 128 + e.srcKey)
  , word (e.gen * 256 + e.dest.val * 16 + state), word (e.slot * 2048 + release / 512 * 1024 + e.strike)
  , word (e.key * 512 + release % 512) ]

/-- The words of READ BLACK BOX: word 2 alone where the box is empty; the generation field is unused. -/
def boxLayout : Option BlackBox → List Word
  | none => [0]
  | some b =>
    [word (32768 + weight b.barred 16384 + reasonBits b.reason * 4096 + b.port.val)] ++ placeLayout b.position b.place 0 ++
      [ word b.bar, word (b.beat * 256), word b.tempo, word (b.transport + b.entries * 16), word (b.time / 65536)
      , word b.time ]

/-! ### The words of records (12.6) -/

/-- A port record: the role, its fields, and 0 for the words that the role does not use. -/
def PortRecord.layout : PortRecord → List Word
  | .off => [0, 0, 0, 0, 0, 0, 0, 0]
  | .controller => [1, 0, 0, 0, 0, 0, 0, 0]
  | .modulePort m =>
    let divisor := match m.divisor with
      | .off => 0
      | .d1 => 1
      | .d2 => 2
      | .d4 => 3
      | .d8 => 4
    let policy := match m.returnPolicy with
      | .immediate => 0
      | .nextScene => 1
      | .nextSong => 2
    [ 2, word m.voiceBudget, word m.settleLimit
    , word (divisor + weight m.restrikeHeld 8 + policy * 32 + m.recoveryCount * 256 + m.flapLimit * 4096)
    , word m.presenceTimeout, word (m.backupPort + weight m.backupNone 16), word m.cooldown, word m.steadyPeriod ]
  | .band b => [3, word (b.subdivision + weight b.warn 16 + weight b.mute 32), 0, 0, 0, 0, 0, 0]
  | .console f => [4, word (weight f 1), 0, 0, 0, 0, 0, 0]
  | .timing n => [5, word n, 0, 0, 0, 0, 0, 0]

/-- A pedal record: eight triggers of three words, the debounce times two to a word, and the tap average count. -/
def PedalTable.layout (t : PedalTable) : List Word :=
  let action (a : TriggerAction) : Nat := match a with
    | .nextSong => 0
    | .prevSong => 1
    | .nextScene => 2
    | .prevScene => 3
    | .songAt => 4
    | .sceneAt => 5
    | .startStop => 6
    | .tap => 7
    | .cueStop => 8
    | .panic => 9
    | .sustain => 10
    | .clickMute => 11
  (t.triggers.toList.flatMap fun r =>
    [ word (r.mask.toNat + r.pattern.toNat * 256)
    , word (action r.action + r.boundary * 16 + r.priority * 256 + r.parameter * 1024), word r.bar ]) ++
  [ word (t.debounce[0] + t.debounce[1] * 256), word (t.debounce[2] + t.debounce[3] * 256)
  , word (t.debounce[4] + t.debounce[5] * 256), word (t.debounce[6] + t.debounce[7] * 256), word t.tapCount ]

/-- Two characters to a word, the first in bits 15-8. -/
def nameLayout : List Byte → List Word
  | a :: b :: rest => word (a.toNat * 256 + b.toNat) :: nameLayout rest
  | _ => []

/-- A song record: name, start fields, counts, tempo-map places, cue places. -/
def SongRecord.layout (r : SongRecord) : List Word :=
  let mode := match r.startMode with
    | .manual => 0
    | .countIn => 1
    | .continue_ => 2
  nameLayout r.name ++
    [ word (r.sceneCount + r.firstScene * 16 + mode * 256 + weight r.follow 1024 + r.countInBars * 4096)
    , word (r.cuePriority + r.tempoCount * 16 + r.cueCount * 1024) ] ++
    (r.tempoPlaces.flatMap fun e => [word e.bar, word e.tempo, word (e.numerator + e.denominator * 256)]) ++
    r.cuePlaces.flatMap fun e => [word e.bar, word (e.beat + e.action * 16 + e.argument * 256), word e.width]

/-- A scene record: the counts, zone places of ten words and preset places of three; signed fields in two's
complement. -/
def SceneRecord.layout (r : SceneRecord) : List Word :=
  let mode (m : FilterMode) : Nat := match m with
    | .all => 0
    | .none_ => 1
    | .list => 2
    | .reserved => 3
  [word (r.zoneCount + r.presetCount * 256)] ++
    (r.zonePlaces.flatMap fun z =>
      [ word z.sources.toNat, word (z.keyLow + z.keyHigh * 256), word z.strikeLow, word z.strikeHigh
      , word ((z.transpose % 256).toNat + weight z.fold 256 + z.curve * 4096)
      , word (z.gain + weight z.sustainFollow 256 + weight z.pressurePass 512 + mode z.filterMode * 1024
          + z.listCount * 4096)
      , word (z.offset % 65536).toNat, word (z.port + z.slot * 256), word (z.list0 + z.list1 * 256)
      , word (z.list2 + z.list3 * 256) ]) ++
    r.presetPlaces.flatMap fun e => [word (e.port + e.slot * 256), word e.bank, word e.preset]

/-- The words of any record. -/
def Record.layout : Record → List Word
  | .port r => r.layout
  | .curve r => r.toList.map word
  | .pedal r => r.layout
  | .setlist r => word r.count :: r.places.map fun n => word n.val
  | .song r => r.layout
  | .scene r => r.layout

/-- The record of a table at an index, none past the table's end. -/
def Tables.recordAt (ts : Tables) (t : TableId) (i : Nat) : Option Record :=
  match t with
  | .port => ts.ports[i]?.map Record.port
  | .curve => ts.curves[i]?.map Record.curve
  | .pedal => if i = 0 then some (.pedal ts.pedal) else none
  | .setlist => if i = 0 then some (.setlist ts.setlist) else none
  | .song => ts.songs[i]?.map Record.song
  | .scene => ts.scenes[i]?.map Record.scene

/-! ### What a command leaves as it was, and what it adds to queues -/

/-- `t` is `u`, but for frames that have joined the young ends of the queues of ports in UP and flags that have been
raised: all that notices, replies, clicks and other offers can do. -/
def Part.Reported (u t : Part) : Prop :=
  t = { u with links := t.links, console := { u.console with flags := t.console.flags } } ∧
  (∀ p : Port, { t.link p with queue := (u.link p).queue } = u.link p ∧
    (u.link p).queue <+: (t.link p).queue ∧ ((u.link p).phase ≠ .up → t.link p = u.link p)) ∧
  ∀ f : Flag, u.console.flags.has f = true → t.console.flags.has f = true

/-- The port is in UP and its queue is not full, so that a frame offered to it joins the queue (R171). -/
def Part.HasRoom (s : Part) (p : Port) : Prop := (s.link p).phase = .up ∧ (s.link p).queue.length < 32

/-- A CONSOLE port in UP with room for the reply of its request. -/
def Part.Asks (s : Part) (p : Port) : Prop := s.role p = .console ∧ s.HasRoom p

/-- A frame at the young end of a port's queue. -/
def Part.plus (s : Part) (p : Port) (f : Frame) : Part :=
  s.updLink p fun l => { l with queue := l.queue ++ [{ frame := f, entry := none }] }

/-- Items at the young ends of queues: the items of `its` whose port is `p` join the queue of port `p`, in their order. -/
def Part.plusItems (s : Part) (its : List (Port × QueueItem)) : Part :=
  { s with links := Vector.ofFn fun p =>
      { s.link p with queue := (s.link p).queue ++ (its.filter fun x => x.1 == p).map Prod.snd } }

/-- Every queue has room for all its items of `its`. -/
def Part.RoomFor (s : Part) (its : List (Port × QueueItem)) : Prop :=
  (∀ x ∈ its, s.isUp x.1 = true) ∧
  ∀ p : Port, (s.link p).queue.length + (its.filter fun x => x.1 == p).length ≤ 32

/-- One frame for the queue of one port. -/
def toPort (p : Port) (f : Frame) : Port × QueueItem := (p, { frame := f, entry := none })

/-- `t` is `u` after the frames `its` have been offered in their order (R171): only queues and flags can differ, and where
every queue has room the frames have joined and nothing else differs. -/
def Part.Offered (u t : Part) (its : List (Port × QueueItem)) : Prop :=
  u.Reported t ∧ (u.RoomFor its → t = u.plusItems its)

/-- A notice: one frame to each CONSOLE port in UP whose mask enables its kind, in port number order (R195). -/
def Part.notices (s : Part) (k : NoticeKind) (data : List Word) : List (Port × QueueItem) :=
  ((List.finRange 12).filter fun q => s.isUp q && s.role q == .console && s.console.masks[q].getLsbD k.code.val).map
    fun q => toPort q (.notice k data)

/-- The TRANSPORT notice of a change of transport state (R100, 12.4). -/
def Part.transportNotices (s : Part) : List (Port × QueueItem) := s.notices .transport s.transportLayout

/-- A flag raised (R194). -/
def Part.withFlag (s : Part) (f : Flag) : Part :=
  { s with console := { s.console with flags := s.console.flags.add f } }

/-- The FLAG RAISED notice of a flag, none where the flag stands already (R194). Its word 3 is STATUS word 2 whole (log
34). -/
def Part.flagNotices (s : Part) (f : Flag) : List (Port × QueueItem) :=
  if s.console.flags.has f = true then [] else s.notices .flagRaised [word f.number, (s.withFlag f).flagsLayout]

/-! ### Links -/

/-- An IDENT sent now if the transmitter is free, and waiting for it otherwise (R166; log 22). -/
def LinkPort.sendsIdent (l : LinkPort) (now offered : Nat) : LinkPort :=
  if l.freeAt ≤ now then
    { l with sending := some (.ident offered), freeAt := now + 50, lastIdent := some now, identWaiting := false }
  else { l with identWaiting := true }

/-- A port that enters IDENT: the IDENT timer starts at 200 ms, and an IDENT is sent at once (R166). -/
def LinkPort.beginsIdent (l : LinkPort) (now offered : Nat) : LinkPort :=
  { l with phase := .ident, identTimer := some (now + 200000), refusalTimer := none }.sendsIdent now offered

/-- A port that enters UP: an empty queue, burst count 0, no recent faults, and no timer of the exchange (R166, R176). -/
def LinkPort.entersUp (l : LinkPort) : LinkPort :=
  { l with phase := .up, queue := [], burst := 0, faults := [], identTimer := none, refusalTimer := none,
           identWaiting := false }

/-- A port that has left UP into `phase`: the loss counted, no recent faults, the queue flushed (R175). -/
def LinkPort.leavesUp (l : LinkPort) (phase : Phase) : LinkPort :=
  { l with phase := phase, losses := bump 255 l.losses, faults := [], queue := [] }

/-- The command `c` takes port `p` out of UP: carrier lost, an IDENT offering another role, or an eighth frame fault
within 1,000 ms. `u` is the part at that moment, and `l` what the port is left with: DOWN, REFUSED with the refusal
timer at 2,000 ms, or DOWN with the 200 ms fault hold (R164, R167, R169, R175). -/
def Part.WayOut (s : Part) (p : Port) (c : Instr) (u : Part) (l : LinkPort) : Prop :=
  (c = .carrierLost p ∧ u = s ∧ l = { s.link p with carrier := false }.leavesUp .down) ∨
  (∃ (wait : Nat) (offered : BitVec 3), c = .ident wait p offered ∧ offered.toNat ≠ (s.role p).expected ∧
    u = s.elapse wait ∧ l = { (s.link p).leavesUp .refused with
      identTimer := none, identWaiting := false, refusalTimer := some (u.now + 2000000) }) ∨
  ∃ wait : Nat, c = .frameFault wait p ∧ (s.link p).faults.length = 7 ∧ u = s.elapse wait ∧
    (∀ oldest ∈ (s.link p).faults.head?, u.now < oldest + 1000000) ∧
    l = { (s.link p).leavesUp .down with
      frameFaults := bump 65535 (s.link p).frameFaults, faultHold := some (u.now + 200000) }

/-- What a received frame is to LINK: its port, the role that takes it in UP (none for UNEXPECTED_FRAME, which no role
takes), and the time it brings (R170). -/
structure Received where
  port : Port
  role : Option Role
  wait : Nat
  deriving DecidableEq, Repr

/-- The frames of the key path, PRESENCE, the timing frames, and REQUEST; none for the other commands (R170). -/
def frameOf : Instr → Option Received
  | .keyDown p .. | .keyUp p .. | .pressure p .. | .control p .. | .sustain p _ => some ⟨p, some .controller, 0⟩
  | .presenceReady w p | .presenceSettling w p | .presenceFault w p => some ⟨p, some .modulePort, w⟩
  | .sourceClock w p => some ⟨p, some .timing, w⟩
  | .transportStartFrame p | .transportStopFrame p | .positionFrame p .. => some ⟨p, some .timing, 0⟩
  | .claim p .. | .release p _ | .loadBegin p .. | .loadData p .. | .loadRun p .. | .read p .. | .readNotes p ..
  | .readBlackBox p _ | .status p _ | .portStatus p .. | .commit p _ | .select p .. | .transportStart p _
  | .transportStop p _ | .transportToStart p _ | .tempoSet p .. | .tempoClear p _ | .takeOut p .. | .returnModule p ..
  | .clearFlags p _ | .clearPeaks p _ | .clearBlackBox p _ | .clearModule p .. | .clearCounts p .. | .noticeMask p ..
  | .panic p _ | .restart p _ | .unknownRequest p .. => some ⟨p, some .console, 0⟩
  | .unexpectedFrame p => some ⟨p, none, 0⟩
  | .deviceReset _ | .storeLoad | .pedalSample _ | .carrierPresent _ | .carrierLost _ | .faultHoldExpiry _
  | .identTimerExpiry _ | .refusalTimerExpiry _ | .ident .. | .frameFault .. | .emissionChoice _ | .accumulatorTick
  | .sourceTimerExpiry | .cueTimerExpiry | .settleTimerExpiry _ | .presenceTimerExpiry _ | .commandedTimerExpiry _
  | .cooldownTimerExpiry _ | .steadyTimerExpiry _ | .commitCompareEnd | .commitEnd _ | .drainEnd => none

/-! ### The note table -/

/-- The table becomes `es`, and PRIOR becomes EMPTY where none of them carries its number (R25, R50). -/
def Part.withEntries (s : Part) (es : List Entry) : Part :=
  { s with
    notes := { s.notes with entries := es }
    scene := { s.scene with
      prior := match s.scene.prior with
        | some g => if es.any (fun e => e.gen == g.number) then some g else none
        | none => none } }

/-- A port's sustain state as a clearing leaves it: the frame part up, its held triggers disregarded (R36). -/
def NotesState.cleared (n : NotesState) (p : Port) : NotesState :=
  { n with
    sustainFrame := upd n.sustainFrame p fun _ => false
    holds := n.holds.map fun h => h.map fun x => if x.port = p then { x with disregarded := true } else x }

/-- The order of R29: which kind of entry is stolen first; an owed release is never stolen. -/
def Part.stealRank (s : Part) (e : Entry) : Option Nat :=
  match e.state with
  | .sustained => some 0
  | .sounding => if e.gen = s.currentNumber then some 2 else some 1
  | .deferred => some 3
  | .owed .. => none

/-- `v` is the entry that R29 steals next on port `d`, with the entries before it in the table and those after it. -/
def Part.IsVictim (s : Part) (d : Port) (before : List Entry) (v : Entry) (after : List Entry) : Prop :=
  s.notes.entries = before ++ v :: after ∧ v.dest = d ∧
  ∃ r ∈ s.stealRank v, (∀ e ∈ before, e.dest = d → ∀ k ∈ s.stealRank e, r < k) ∧
    ∀ e ∈ after, e.dest = d → ∀ k ∈ s.stealRank e, r ≤ k

/-- The zone at place `before.length` of CURRENT is the one zone of CURRENT that covers a key-down, it gives sent key
`sent`, and its destination resolves to `d` (R8, R10, R11). -/
def Part.OneZone (s : Part) (p : Port) (key strike : Nat) (before : List ZoneRecord) (z : ZoneRecord)
    (after : List ZoneRecord) (sent : Nat) (d : Port) : Prop :=
  (∃ g ∈ s.scene.current, g.zones = before ++ z :: after) ∧
  (∀ y ∈ before ++ after, y.covers p key strike = false) ∧ z.covers p key strike = true ∧ z.sentKey key = some sent ∧
  ∃ n ∈ portOf z.port, s.role n = .modulePort ∧
    ((s.isActive n = true ∧ d = n) ∨ (s.isActive n = false ∧ s.substitute n = some d))

/-- The entry that R31 makes for that zone. -/
def Part.newEntry (s : Part) (p : Port) (key strike zone : Nat) (z : ZoneRecord) (sent : Nat) (d : Port)
    (state : EntryState) (waits : Bool) : Entry :=
  { name := s.notes.nextName, srcPort := p, srcKey := key, gen := s.currentNumber, zone := zone, dest := d,
    slot := z.slot, key := sent, strike := s.sentStrike z strike, state := state, pending := waits }

/-- The table with an entry at its young end, and the destination's peak kept count raised to its kept count (R22, R23,
R157). -/
def Part.withNewEntry (s : Part) (e : Entry) : Part :=
  { s with
    notes := { s.notes with entries := s.notes.entries ++ [e], nextName := s.notes.nextName + 1 }
    watch := { s.watch with
      modules := upd s.watch.modules e.dest fun m => { m with peak := max m.peak (s.kept e.dest + 1) } } }

/-- No entry has this source, and none that is not owed plays the destination, slot and sent key: the retrigger and
collision steps find nothing (R26, R28). -/
def Part.Untouched (s : Part) (p : Port) (key : Nat) (d : Port) (slot sent : Nat) : Prop :=
  ∀ e ∈ s.notes.entries, ¬(e.srcPort = p ∧ e.srcKey = key) ∧ (e.plays d slot sent = true → e.isOwed = true)

/-! ### Key-downs, item by item (R24, R26 to R32, R48) -/

/-- The collision step: what plays a destination, slot and sent key is deleted where DEFERRED, and becomes RELEASE OWED
(COLLISION) where SOUNDING or SUSTAINED (R28). -/
def Part.collided (u : Part) (d : Port) (slot key : Nat) : Part :=
  u.withEntries <| (u.notes.entries.filter fun e => !(e.isDeferred && e.plays d slot key)).map fun e =>
    if e.rings = true ∧ e.plays d slot key = true then { e with state := .owed .collision 0 } else e

/-- The retrigger step: the earlier entries of a key, in CURRENT deleted where DEFERRED and released where SOUNDING or
SUSTAINED, in PRIOR released where SOUNDING (R26). -/
def Part.retriggered (u : Part) (p : Port) (key : Nat) : Part :=
  let own (e : Entry) : Bool := e.srcPort == p && e.srcKey == key
  let isCurrent (e : Entry) : Bool := e.gen == u.currentNumber
  u.withEntries <| (u.notes.entries.filter fun e => !(own e && isCurrent e && e.isDeferred)).map fun e =>
    if own e = true ∧ (e.isSounding = true ∨ (e.isSustained = true ∧ isCurrent e = true)) then
      { e with state := .owed .retrigger 0 }
    else e

/-- The entry that R29 steals next on a port: the oldest of the first kind that exists. -/
def Part.nextVictim (u : Part) (d : Port) : Option Entry :=
  [0, 1, 2, 3].findSome? fun k => u.notes.entries.find? fun e => e.dest == d && u.stealRank e == some k

/-- The budget step: at the voice budget the next victim is deleted where DEFERRED, and becomes RELEASE OWED (STOLEN)
otherwise; STEAL is raised (R29). -/
def Part.withinBudget (u : Part) (d : Port) : Part :=
  if u.kept d = (u.moduleFields d).voiceBudget then
    Part.raise (match u.nextVictim d with
      | none => u
      | some v =>
        if v.isDeferred = true then u.withEntries (u.notes.entries.filter fun e => e.name ≠ v.name)
        else u.setEntries (u.notes.entries.map fun e =>
          if e.name = v.name then { e with state := .owed .stolen 0 } else e)) .steal
  else u

/-- The new entry `e` sounds: with room in the queue it joins the table with key-down pending yes, and its KEY DOWN
joins the queue; during a drain it is RELEASE OWED (RESTART) at once. A full queue makes no entry and raises QUEUE
OVERFLOW, and a port that is not UP makes none (R24, R31, R48, R171). -/
def Part.sounded (u : Part) (e : Entry) : Part :=
  if (u.link e.dest).phase = .up ∧ (u.link e.dest).queue.length < 32 then
    let made : Entry := { e with state := if u.console.drain = none then .sounding else .owed .restart 0, pending := true }
    (u.withNewEntry made).updLink e.dest fun l =>
      { l with queue := l.queue ++ [{ frame := .keyDown e.slot e.key e.strike, entry := some e.name }] }
  else if u.isUp e.dest = true then u.raiseOverflow
  else u

/-- The new entry `e` is DEFERRED: with 16 of its port in the table, the oldest of them is deleted first and the
defer-overflow count rises, to at most 65535 (R32). -/
def Part.putOff (u : Part) (e : Entry) : Part :=
  let made : Entry := { e with state := .deferred, pending := false }
  match u.notes.entries.find? fun x => x.dest == e.dest && x.isDeferred with
  | some v =>
    if u.deferredCount e.dest = 16 then
      let w := u.withEntries (u.notes.entries.filter fun x => x.name ≠ v.name)
      ({ w with notes := { w.notes with deferOverflow := upd w.notes.deferOverflow e.dest (bump 65535) } }).withNewEntry made
    else u.withNewEntry made
  | none => u.withNewEntry made

/-- An item that is not skipped: the collision, budget, table-full and create steps (R28 to R31); a drain creates no
DEFERRED entry (R48). -/
def Part.itemTaken (u : Part) (p : Port) (key : Nat) (it : ResultItem) : Part :=
  let w := (u.collided it.dest it.slot it.key).withinBudget it.dest
  let e : Entry :=
    { name := w.notes.nextName, srcPort := p, srcKey := key, gen := it.gen, zone := it.zone, dest := it.dest, slot := it.slot
      key := it.key, strike := it.strike, state := .sounding, pending := true }
  if 256 ≤ w.notes.entries.length then w.raise .noteTableFull
  else if w.isSettling it.dest = true then (if w.console.drain = none then w.putOff e else w)
  else w.sounded e

/-- The items of a list in order, each on the table that the one before leaves; one with the destination, slot and sent
key of an earlier item is skipped (R27). -/
def Part.itemsTaken (u : Part) (p : Port) (key : Nat) (earlier : List ResultItem) : List ResultItem → Part
  | [] => u
  | it :: rest =>
    let skip := earlier.any fun x => x.dest == it.dest && x.slot == it.slot && x.key == it.key
    (if skip = true then u else u.itemTaken p key it).itemsTaken p key (earlier ++ [it]) rest

/-! ### Sent, copied and moved entries (R42 to R44) -/

/-- The DEFERRED entry of a name is sent: what rings in its way becomes RELEASE OWED (COLLISION), and it becomes
SOUNDING with its KEY DOWN in the queue; a full queue deletes it and raises QUEUE OVERFLOW (R24, R42). -/
def Part.entrySent (u : Part) (name : Nat) : Part :=
  match u.notes.entries.find? fun e => e.name == name && e.isDeferred with
  | none => u
  | some e =>
    let v := u.setEntries (u.notes.entries.map fun x =>
      if x.rings = true ∧ x.plays e.dest e.slot e.key = true then { x with state := .owed .collision 0 } else x)
    let without (w : Part) : Part := w.withEntries (w.notes.entries.filter fun x => x.name ≠ name)
    if (u.link e.dest).phase = .up ∧ (u.link e.dest).queue.length < 32 then
      (v.setEntries (v.notes.entries.map fun x =>
        if x.name = name then { x with state := .sounding, pending := true } else x)).updLink e.dest fun l =>
          { l with queue := l.queue ++ [{ frame := .keyDown e.slot e.key e.strike, entry := some name }] }
    else if u.isUp e.dest = true then without v.raiseOverflow
    else without v

/-- The names of a port's DEFERRED entries, in creation order (log 14). -/
def Part.deferredOn (u : Part) (p : Port) : List Nat :=
  (u.notes.entries.filter fun e => e.dest == p && e.isDeferred).map Entry.name

/-- Restrike copies of the entries of a list onto `b`, with source, generation, zone, slot, sent key and sent strike as
they are. Each makes the collision step; at the voice budget, and at 16 DEFERRED where it would be another, the restrike
stops, and so it does at a full table, with NOTE TABLE FULL raised. A copy of CURRENT is DEFERRED where `b` settles, any
other sounds (R43). -/
def Part.copied (u : Part) (b : Port) : List Entry → Part
  | [] => u
  | e :: rest =>
    let v := u.collided b e.slot e.key
    let copy : Entry := { e with name := v.notes.nextName, dest := b }
    if v.kept b = (v.moduleFields b).voiceBudget then v
    else if 256 ≤ v.notes.entries.length then v.raise .noteTableFull
    else if e.gen = v.currentNumber ∧ v.isSettling b = true then
      if v.deferredCount b = 16 then v
      else (v.withNewEntry { copy with state := .deferred, pending := false }).copied b rest
    else (v.sounded copy).copied b rest

/-- The DEFERRED entry of a name takes destination `b` at its place: an equal DEFERRED entry on `b` is deleted, and it
is deleted itself where `b` is at its voice budget or holds 16 DEFERRED entries without it (R44). The peak is offered
the count that this leaves (log 13). -/
def Part.entryMoved (b : Port) (u : Part) (name : Nat) : Part :=
  match u.notes.entries.find? fun e => e.name == name && e.isDeferred with
  | none => u
  | some e =>
    let v := u.withEntries (u.notes.entries.filter fun x => !(x.isDeferred && x.plays b e.slot e.key))
    if v.kept b = (v.moduleFields b).voiceBudget ∨ v.deferredCount b = 16 then
      v.withEntries (v.notes.entries.filter fun x => x.name ≠ name)
    else
      let w := v.setEntries (v.notes.entries.map fun x => if x.name = name then { x with dest := b } else x)
      w.updModule b fun m => { m with peak := max m.peak (w.kept b) }

/-! ### Presence -/

/-- The presence record after a PRESENCE frame's time is taken: the worst gap and the last presence time (R157). -/
def gapTaken (m : Presence) (ms : Nat) : Presence :=
  { m with
    lastTime := some ms
    worstGap := match m.lastTime with
      | some t0 => if m.state = .absent then m.worstGap else max m.worstGap (min 65535 (ms - t0))
      | none => m.worstGap }

/-! ### Departures (R141, R142, R143, R156) -/

/-- `v` is the part when a departure of `p` has recorded the substitute `sub` and the failover has not begun: the KEY
DOWN frames in the queue of `p` are withdrawn and their entries no longer pending, unless its link is lost; the settle
of `p` is abandoned; no module keeps `p` as substitute; and `sub` is sent the presets of `p`, which begin or restart its
settle (R24, R60, R62, R66, R142, R143, R174). -/
def Part.Replaced (u v : Part) (p : Port) (lost : Bool) (sub : Option Port) : Prop :=
  let mine := u.currentPresets.filter fun e => e.port == p.val
  let withdrawn (e : Entry) : Bool :=
    !lost && (u.link p).queue.any fun it => it.isDown && it.entry == some e.name
  v = { u with
    links := v.links, watch := v.watch, console := { u.console with flags := v.console.flags }
    notes := { u.notes with
      entries := u.notes.entries.map fun e => if withdrawn e = true then { e with pending := false } else e }
    scene := { u.scene with
      settle := Vector.ofFn fun q =>
        if q = p then none
        else if mine ≠ [] ∧ sub = some q then
          some { seen := false, timer := u.now + (u.moduleFields q).settleLimit * 1000 }
        else u.scene.settle[q] } } ∧
  (∀ q : Port, q ≠ p → v.module q = u.module q) ∧
  (∀ q : Port, v.substitute q = if q = p then sub else if u.substitute q = some p then none else u.substitute q) ∧
  (if lost = true then v.isUp p = false
   else v.link p = { u.link p with queue := (u.link p).queue.filter fun it => !it.isDown }) ∧
  Part.Offered { v with links := upd u.links p fun _ => v.link p, console := { v.console with flags := u.console.flags } } v
    (sub.elim [] fun b => mine.map fun e => toPort b (.preset e.slot e.bank e.preset))

/-- The failover of a departure of `p` from `u` to `t`, as its note-table entries have it. With restrike policy HELD the
SOUNDING entries of `p` are copied onto the substitute. Its DEFERRED entries move there, and are sent where the
substitute does not settle; without a substitute they are deleted. Its ringing entries become RELEASE OWED (MODULE OUT),
and where its link is lost every entry of `p` then leaves the table. The MODULE notice comes after all that (R39, R43,
R44, R142, R145, R158). -/
def Part.FailedOver (u v t : Part) (p : Port) (r : Reason) : Prop :=
  let sub := t.substitute p
  let held := v.notes.entries.filter fun e => e.dest == p && e.isSounding
  let x := sub.elim v fun b => if (u.moduleFields p).restrikeHeld = true then v.copied b held else v
  let y := sub.elim (x.withEntries (x.notes.entries.filter fun e => !(e.dest == p && e.isDeferred))) fun b =>
    let z := (x.deferredOn p).foldl (Part.entryMoved b) x
    if z.isSettling b = true then z else (x.deferredOn p).foldl Part.entrySent z
  let owed := y.setEntries (y.notes.entries.map fun e =>
    if e.dest = p ∧ e.rings = true then { e with state := .owed .moduleOut 0 } else e)
  let w := if r = .linkDown then owed.withEntries (owed.notes.entries.filter fun e => e.dest ≠ p) else owed
  let told := w.notices .module_ [word (p.val + 16), (t.module p).layout, word (portBits sub)]
  u.Replaced v p (r == .linkDown) sub ∧ t.notes = w.notes ∧ t.scene = w.scene ∧
  (∀ q : Port, q ≠ p → t.module q = w.module q ∧ { t.link q with queue := (w.link q).queue } = w.link q ∧
    (w.link q).queue <+: (t.link q).queue) ∧
  (w.RoomFor told → ∀ q : Port, q ≠ p → ((w.plusItems told).link q).queue <+: (t.link q).queue)

/-- What a departure of module `p` for reason `r` makes of the part `u`, as the part `t` has it. -/
def Part.Departed (u t : Part) (p : Port) (r : Reason) : Prop :=
  let m := u.module p
  let n := t.module p
  let barred := r ≠ .commanded ∧ m.loss + 1 = (u.moduleFields p).flapLimit
  n.loss = (if r = .commanded then m.loss else m.loss + 1) ∧
  n.state = (if barred then .barred else .out) ∧ n.reasons = (if barred then .empty else .only r) ∧
  n.lastReason = some r ∧ n.steadyTimer = none ∧ t.isSettling p = false ∧
  (∀ y : Port, t.substitute y ≠ some p) ∧
  (t.substitute p = none ∨ t.substitute p = (u.moduleFields p).backup) ∧
  (∀ b ∈ (u.moduleFields p).backup, b ≠ p ∧ u.role b = .modulePort ∧ u.isActive b = true ∧ u.substitute b = none →
    t.substitute p = some b) ∧
  (∀ b ∈ t.substitute p, b ≠ p ∧ u.role b = .modulePort ∧ u.isActive b = true) ∧
  (∀ e ∈ t.notes.entries, e.dest = p → e.isOwed = true) ∧
  (∀ it ∈ (t.link p).queue, it.isDown = false) ∧
  (u.watch.blackBox ≠ none → t.watch.blackBox = u.watch.blackBox) ∧
  (u.watch.blackBox = none → t.watch.blackBox = some
    { port := p, reason := r, barred := decide barred, position := u.setlist.position, place := u.setlist.place,
      bar := u.tempo.bar, beat := u.tempo.beat, tempo := u.effectiveTempo, transport := u.tempo.transport.code,
      entries := u.notes.entries.length, time := u.ms }) ∧
  ∃ v : Part, u.FailedOver v t p r

/-- What a MODULE port's departure from UP makes of the part `u`, as the part `t` has it: every entry of the port leaves
without release, the presence timer and started stop; an ACTIVE module departs with LINK DOWN, in OUT the reason joins the
set, RECOVERING, COOLDOWN and WAITING go back to OUT, ABSENT and BARRED stay (R39, R125, R139, R141, R142, R146, R157,
R175). -/
def Part.ModuleLost (u t : Part) (p : Port) : Prop :=
  let m := u.module p
  (∀ e ∈ t.notes.entries, e.dest ≠ p) ∧ (t.module p).presenceTimer = none ∧ (t.module p).lastTime = none ∧
  t.click.started[p] = false ∧
  t = { u with links := t.links, notes := { u.notes with entries := t.notes.entries, nextName := t.notes.nextName }
               scene := { u.scene with prior := t.scene.prior, settle := t.scene.settle }
               click := { u.click with started := upd u.click.started p fun _ => false }
               watch := t.watch, console := { u.console with flags := t.console.flags } } ∧
  (m.state = .active → u.Departed t p .linkDown) ∧
  (m.state ≠ .active → t.notes.entries = u.notes.entries.filter fun e => e.dest ≠ p) ∧
  (m.state = .out → t.module p =
    { m with reasons := m.reasons.add .linkDown, presenceTimer := none, lastTime := none }) ∧
  (m.state = .recovering ∨ m.state = .cooldown ∨ m.state = .waiting → t.module p =
    { m with state := .out, reasons := .only .linkDown, lastReason := some .linkDown, cooldownTimer := none
             progress := 0, presenceTimer := none, lastTime := none }) ∧
  (m.state = .absent ∨ m.state = .barred → t.module p = { m with presenceTimer := none, lastTime := none })

/-! ### Pedals -/

/-- The part after a sample of the lines, before any trigger acts: time, levels and filtered lines (R127). -/
def Part.sampled (s : Part) (levels : BitVec 8) : Part :=
  let u := s.elapseTo (s.nextSample * 1000)
  ({ u with pedal := { u.pedal with levels := levels, lastSample := some s.nextSample } }).filterLines levels

/-- A sample after the first that finds trigger `i` armed as `wasArmed` and in conformity as `fits`, and every other
trigger in the conformity it was armed with (R129, R130). -/
def Part.MovesAlone (s : Part) (levels : BitVec 8) (i : Trigger) (wasArmed fits : Bool) : Prop :=
  s.starting = false ∧ s.pedal.lastSample ≠ none ∧ s.pedal.armed[i] = wasArmed ∧
  (s.trigger i).conforms (s.sampled levels).pedal.filtered = fits ∧
  ∀ j : Trigger, j ≠ i → (s.trigger j).conforms (s.sampled levels).pedal.filtered = s.pedal.armed[j]

/-! ### Reading CURRENT and the map (R11, R56, R60) -/

/-- The module that a port number leads to: itself where it is MODULE and ACTIVE, else its substitute; none for 12-15 and
for other roles (R11, R56). -/
def Part.leadsTo (s : Part) (n : Nat) : Option Port :=
  (portOf n).bind fun d =>
    if s.role d ≠ .modulePort then none
    else if s.isActive d = true then some d
    else s.substitute d

/-- The PRESET frames of a preset send to `m` for the named port `n` (R60). -/
def Part.presetsFor (s : Part) (m n : Port) : List (Port × QueueItem) :=
  (s.currentPresets.filter fun e => e.port == n.val).map fun e => toPort m (.preset e.slot e.bank e.preset)

/-- A settle that begins or restarts on a module now (R62). -/
def Part.settleNow (s : Part) (p : Port) : Settle :=
  { seen := false, timer := s.now + (s.moduleFields p).settleLimit * 1000 }

/-- A generation built from the active position record with the tables as stored: the copies are those of record song x
8 + scene (R54, R67, R74). The song is that of the record, also under an
emptied setlist (log 35). -/
def Part.generationOf (s : Part) (number : Nat) : Generation :=
  let record := s.setlist.place.bind fun pl => s.tables.scenes[pl.song.val * 8 + pl.scene.val]?
  { number := number, position := s.setlist.position, place := s.setlist.place
    zones := record.elim [] fun r => r.zonePlaces.take r.zoneCount
    presets := record.elim [] fun r => r.presetPlaces.take r.presetCount }

/-! ### Returns (R144, R151, R152) -/

/-- The presence record of a module that returns (R152). -/
def Part.returned (s : Part) (p : Port) : Presence :=
  { s.module p with
    state := .active, reasons := .empty, progress := 0
    steadyTimer := some (s.now + (s.moduleFields p).steadyPeriod * 1000000) }

/-- The modules of `rs` return: they are ACTIVE and have no substitute, and stand in for the out modules that have none
and whose backup they are (R144, R152). -/
def Part.withReturned (s : Part) (rs : List Port) : Part :=
  { s with watch := { s.watch with
      modules := Vector.ofFn fun q => if q ∈ rs then s.returned q else s.module q
      map := Vector.ofFn fun y =>
        if y ∈ rs then none
        else if s.isOut y = true ∧ s.substitute y = none then (s.moduleFields y).backup.filter (· ∈ rs)
        else s.substitute y } }

/-- The out modules without a substitute that `p` backs (R144). -/
def Part.gainedBy (s : Part) (p : Port) : List Port :=
  (List.finRange 12).filter fun y =>
    y != p && s.isOut y && (s.moduleFields y).backup == some p && (s.substitute y).isNone

/-- Module `p` returns outside a scene entry: it stands in for the modules it gains, and its settle begins where CURRENT
holds a preset for it or for one of them (R60, R62, R144, R152). -/
def Part.backInService (s : Part) (p : Port) : Part :=
  let u := s.withReturned [p]
  { u with scene := { u.scene with
      settle := upd u.scene.settle p fun x =>
        if s.currentPresets.any (fun e => e.port == p.val || (s.gainedBy p).any fun y => e.port == y.val) = true
        then some (s.settleNow p) else x } }

/-- What that return offers: its own presets, those of the modules it gains in port number order, and the MODULE notice
(R60, R144, R158). -/
def Part.backFrames (s : Part) (p : Port) : List (Port × QueueItem) :=
  s.presetsFor p p ++ (s.gainedBy p).flatMap (s.presetsFor p) ++
    s.notices .module_ [word (p.val + 5 * 16), (s.returned p).layout, 15]

/-! ### Scene entry (R41, R52 to R57) -/

/-- The forced release changes an entry: PRIOR has one in SOUNDING or SUSTAINED (R41, R53). -/
def Part.forced (v : Part) : Bool := v.notes.entries.any fun e => e.isOf v.scene.prior && e.rings

/-- The modules that return at a scene entry, in port number order: in WAITING with policy NEXT SCENE, and at a song entry
with NEXT SONG (R55, R151). -/
def Part.returners (v : Part) (isSong : Bool) : List Port :=
  (List.finRange 12).filter fun q =>
    v.role q == .modulePort && (v.module q).state == .waiting &&
      ((v.moduleFields q).returnPolicy == .nextScene || ((v.moduleFields q).returnPolicy == .nextSong && isSong))

/-- Scene entry of the active place, from `v`: PRIOR's ringing entries are released with cause FORCED, every DEFERRED
entry is deleted, what is left takes the outgoing CURRENT's number; the outgoing CURRENT becomes PRIOR where it owns an
entry, and the new CURRENT has the next number and copies of the stored record; the modules that wait for it return; and
each module that a preset of it leads to begins or restarts its settle (R41, R52 to R56, R62). -/
def Part.entered (v : Part) (isSong : Bool) : Part :=
  let es := ((v.notes.entries.filter fun e => !e.isDeferred).map fun e =>
    if e.isOf v.scene.prior = true ∧ e.rings = true then { e with state := .owed .forced 0 } else e).map fun e =>
      { e with gen := v.currentNumber }
  let g := v.generationOf ((v.currentNumber + 1) % 256)
  let flagged := if v.forced = true then v.withFlag .forcedRelease else v
  let x := ({ flagged with
    notes := { v.notes with entries := es }
    scene := { v.scene with prior := if es = [] then none else v.scene.current, current := some g } }).withReturned
      (v.returners isSong)
  { x with scene := { x.scene with
      settle := Vector.ofFn fun q =>
        if g.presets.any (fun e => x.leadsTo e.port == some q) = true then some (v.settleNow q)
        else v.scene.settle[q] } }

/-- What a scene entry offers: FLAG RAISED, the MODULE notices of the returns, the PRESET frames in index order, each to
the module it leads to, and SCENE ENTERED with PRIOR's number or EMPTY (R53, R55, R56, R57, R158, R194). -/
def Part.entryFrames (v : Part) (isSong : Bool) : List (Port × QueueItem) :=
  let x := v.entered isSong
  (if v.forced = true then v.flagNotices .forcedRelease else []) ++
    ((v.returners isSong).flatMap fun q => v.notices .module_ [word (q.val + 5 * 16), (v.returned q).layout, 15]) ++
    (x.currentPresets.filterMap fun e => (x.leadsTo e.port).map fun d => toPort d (.preset e.slot e.bank e.preset)) ++
    v.notices .sceneEntered (placeLayout v.setlist.position v.setlist.place ((v.currentNumber + 1) % 256) ++
      [word (x.scene.prior.elim 256 Generation.number + weight v.forced 512)])

/-! ### What CLICK offers (R115 to R124) -/

/-- One CLICK frame to each BAND port in UP and not muted to which `accent` gives one, in port number order (R115). -/
def Part.clicks (s : Part) (accent : BandFields → Option Accent) (bar beat : Nat) : List (Port × QueueItem) :=
  (List.finRange 12).filterMap fun q =>
    match s.bandFields q with
    | some b => if s.muted b = true then none else (accent b).map fun a => toPort q (.click a bar beat)
    | none => none

/-- The clicks of a beat start. A pending request with NEXT BAR, or with AT BAR and a bar not above the next bar start's,
makes the WARN test hold (R116, R117). -/
def Part.beatClicks (s : Part) : List (Port × QueueItem) :=
  let warned := s.setlist.pending.any fun r =>
    match r.boundary with
    | .nextBar => true
    | .atBar b => decide (b ≤ min 9999 (s.tempo.bar + 1))
    | .immediate | .nextBeat => false
  s.clicks (fun b => some <|
    if s.tempo.beat = 1 then .downbeat
    else if s.tempo.beat = s.tempo.numerator ∧ b.warn = true ∧ warned = true then .warn
    else .beat) s.tempo.bar s.tempo.beat

/-- The SUB clicks of a tick (R118). -/
def Part.subClicks (s : Part) : List (Port × QueueItem) :=
  s.clicks (fun b =>
    if 2 ≤ b.subdivision ∧ s.tempo.tick ≠ 0 ∧ s.tempo.tick % (48 / b.subdivision) = 0 then some .sub else none)
    s.tempo.bar s.tempo.beat

/-- The COUNT clicks of a count beat (R119). -/
def Part.countClicks (s : Part) (c : CountState) : List (Port × QueueItem) :=
  let bar := (c.beat - 1) / c.numerator
  s.clicks (fun _ => some .count) (bar + 1) (c.beat - c.numerator * bar)

/-- A CUE frame to each BAND port in UP, muted or not (R121, R122). -/
def Part.cueFrames (s : Part) (start : Bool) (n : Nat) : List (Port × QueueItem) :=
  ((List.finRange 12).filter fun q => s.isUp q && s.role q == .band).map fun q => toPort q (.cue start n)

/-- The CUE STOP frames of a forced stop, none in IDLE (R122). -/
def Part.cueStops (s : Part) : List (Port × QueueItem) := s.click.cue.elim [] fun c => s.cueFrames false c.number

/-- A TRANSPORT frame to each MODULE port in UP whose divisor is not OFF (R124). -/
def Part.transportFrames (s : Part) (start : Bool) : List (Port × QueueItem) :=
  ((List.finRange 12).filter fun q => (s.clockTicks q).isSome).map fun q => toPort q (.transport start)

/-- The CLOCK frames of a tick, each behind a TRANSPORT START where started is no (R123, R124). -/
def Part.clockFrames (s : Part) : List (Port × QueueItem) :=
  (List.finRange 12).flatMap fun q =>
    if (s.clockTicks q).any (fun d => s.tempo.tick % d == 0) = true then
      (if s.click.started[q] = true then [] else [toPort q (.transport true)]) ++ [toPort q .clock]
    else []

/-- Everything CLICK offers at a tick in RUNNING. -/
def Part.tickFrames (s : Part) : List (Port × QueueItem) :=
  s.clockFrames ++ s.subClicks ++ if s.tempo.tick = 0 then s.beatClicks else []

/-- `t` is `u` after CLICK has offered `its`: as `Part.Offered`, but that a TRANSPORT START refused by a full queue leaves
started no (R125). -/
def Part.Clicked (u t : Part) (its : List (Port × QueueItem)) : Prop :=
  Part.Reported { u with click := { u.click with started := t.click.started } } t ∧ (u.RoomFor its → t = u.plusItems its)

/-! ### What a tick and a STOP make of the part (R93, R98) -/

/-- The lookup that a bar start makes (R93, R96). -/
def Part.barLookup (s : Part) : Part := if s.tempo.tick = 0 ∧ s.tempo.beat = 1 then s.lookup s.tempo.bar else s

/-- The position handed on as a tick, where SETLIST has no work: the bar start's lookup, started yes on each port that is
offered a CLOCK, and at a beat start the cue mark, passed (R89, R93, R124). -/
def Part.ticked (s : Part) : Part :=
  let u := s.barLookup
  { u with
    click := { u.click with
      started := Vector.ofFn fun q => u.click.started[q] || (u.clockTicks q).any fun d => u.tempo.tick % d == 0 }
    setlist :=
      if u.tempo.tick = 0 then
        { u.setlist with markBar := u.tempo.bar, markBeat := u.tempo.beat, markPassed := true }
      else u.setlist }

/-- The part after STOP in a song that does not follow: STOPPED at the kept position, the cue stopped, started no on every
port (R98, R122, R124). -/
def Part.halted (u : Part) : Part :=
  { u with
    tempo := { u.tempo with transport := .stopped, acc := 0 }
    click := { u.click with cue := none, started := Vector.replicate 12 false } }

/-- What STOP offers: TRANSPORT STOP, CUE STOP, and the TRANSPORT notice (R98, R100, R122, R124). -/
def Part.stopFrames (u : Part) : List (Port × QueueItem) :=
  u.transportFrames false ++ u.cueStops ++ u.halted.transportNotices

/-! ### Changes taken (R85 to R88, R103) -/

/-- The song a position of the setlist names, the position clamped to the list; none where the list is empty (R85). -/
def Part.songOf (v : Part) (i : Nat) : Option SongNo :=
  v.tables.setlist.songs[min i (v.tables.setlist.songs.length - 1)]?

/-- A scene of a song, clamped to its scene count (R78, R85). -/
def Part.sceneOf (v : Part) (n : SongNo) (k : Nat) : SceneNo := sceneNo (min k ((v.tables.songs[n]).sceneCount - 1))

/-- A song's first scene. -/
def Part.opening (v : Part) (n : SongNo) : SceneNo := sceneNo (v.tables.songs[n]).firstScene

/-- The place that a resolved target gives as the tables read now (R85, R88). -/
def Part.placeOf (v : Part) : Resolved → Option Place
  | .song i sc => (v.songOf i).map fun n => { song := n, scene := sc.elim (v.opening n) fun k => v.sceneOf n k.val }
  | .scene sc => v.setlist.place.map fun pl => { pl with scene := v.sceneOf pl.song sc.val }
  | .reload => v.setlist.place

/-- TEMPO after the entry of a song, or of song none: the override, the taps and the follow state reset, bar 1, beat 1,
tick 0 with its tempo-map entry, and the transport by the start mode; a FOLLOW song keeps the transport, and song none
is STOPPED (R86, R87, R103). That the follow mark, the count-in bars and the first tempo are kept from the entry on is
the model's (log 12). -/
def TempoState.atSongEntry (x : TempoState) (r : Option SongRecord) : TempoState :=
  let found := r.bind fun r => entryAt r.tempoMap 1
  let first := found.elim x.firstTempo fun e => (r.bind fun r => r.tempoMap.head?).elim e.tempo TempoEntry.tempo
  let follow := r.any SongRecord.follow
  let bars := r.elim 0 SongRecord.countInBars
  let y : TempoState :=
    { x with
      override := none, lastTap := none, taps := [], follow := .waiting, window := [], lastClock := none
      sourceTimer := none, bar := 1, beat := 1, tick := 0
      mapTempo := found.elim x.mapTempo TempoEntry.tempo
      numerator := found.elim x.numerator TempoEntry.numerator
      denominator := found.elim x.denominator TempoEntry.denominator
      firstTempo := first, measured := if follow = true then first else x.measured
      followSong := follow, countInBars := bars }
  let counting : TempoState :=
    { y with transport := .countingIn { beat := 1, total := bars * y.numerator, tick := 0, numerator := y.numerator }
             acc := 0 }
  if follow = true then y
  else match r.map SongRecord.startMode, x.transport with
    | none, _ | some .manual, _ | some .continue_, .stopped => { y with transport := .stopped, acc := 0 }
    | some .continue_, .running => y
    | some .continue_, .countingIn _ => { y with transport := .running, acc := 0 }
    | some .countIn, _ => if 0 < bars then counting else { y with transport := .running, acc := 0 }

/-- The entry of song `r` makes a tick at bar 1, beat 1: with COUNT IN and no count-in bars, and with CONTINUE out of
COUNTING IN (R87, R103). -/
def TempoState.ticksAtEntry (x : TempoState) (r : SongRecord) : Bool :=
  !r.follow && match r.startMode, x.transport with
    | .countIn, _ => r.countInBars == 0
    | .continue_, .countingIn _ => true
    | .continue_, .stopped | .continue_, .running | .manual, _ => false

/-- A TRANSPORT START has been offered to every clocked port (R124). -/
def Part.allStarted (s : Part) : Part :=
  { s with click := { s.click with
      started := Vector.ofFn fun q => s.click.started[q] || (s.clockTicks q).isSome } }

/-- The part when a resolved target has been taken, but for the scene entry that follows: the slot is empty and the
place is the target's. A song entry also resets the song's time and the cue mark, stops the cue, clears the global cue
mute, and leaves started no on every port where it stops the transport and yes on the clocked ones where it makes a
tick, whose beat start then marks the position as passed (R85 to R89, R103, R124). -/
def Part.atTarget (v : Part) (x : Resolved) : Part :=
  let u := { v with setlist := { v.setlist with pending := none, place := v.placeOf x } }
  match x with
  | .song i _ =>
    let r := u.activeSong
    let tempo := v.tempo.atSongEntry r
    let ticks := r.any v.tempo.ticksAtEntry
    { u with
      setlist := { u.setlist with
        position := min i (v.tables.setlist.songs.length - 1), markBar := 1, markBeat := 1, markPassed := ticks }
      tempo := tempo
      click := { u.click with
        cue := none, cueMute := false
        started :=
          if tempo.transport = .stopped ∧ v.tempo.transport ≠ .stopped then Vector.replicate 12 false
          else if ticks = true then v.allStarted.click.started
          else v.click.started } }
  | .scene _ | .reload => u

/-- What a song entry offers before its scene entry, by the change of transport that it makes (R87, R100, R103, R119,
R122 to R124). -/
def Part.songFrames (v : Part) (x : Resolved) : List (Port × QueueItem) :=
  let w := v.atTarget x
  let y := { w with click := v.click }
  let begins := if v.tempo.transport = .running then [] else v.transportFrames true ++ w.transportNotices
  let heard := if v.tempo.transport = .running then y else y.allStarted
  if w.tempo.followSong = true then v.cueStops
  else if w.activeSong.any v.tempo.ticksAtEntry = true then begins ++ heard.tickFrames ++ v.cueStops
  else match w.tempo.transport, v.tempo.transport with
    | .stopped, .stopped | .running, _ => v.cueStops
    | .stopped, .countingIn _ | .stopped, .running => v.transportFrames false ++ v.cueStops ++ w.transportNotices
    | .countingIn c, .countingIn _ => y.countClicks c ++ v.cueStops
    | .countingIn c, .stopped | .countingIn c, .running => y.countClicks c ++ w.transportNotices ++ v.cueStops

/-- The part after a resolved target has been taken from `v` (R85 to R88). A SCENE target with song none finds nothing to
enter. -/
def Part.taken (v : Part) (x : Resolved) : Part :=
  match x, v.setlist.place with
  | .scene _, none => v.atTarget x
  | .scene _, some _ | .song .., _ | .reload, _ => (v.atTarget x).entered x.isSong

/-- What that taking offers. -/
def Part.takenFrames (v : Part) (x : Resolved) : List (Port × QueueItem) :=
  match x, v.setlist.place with
  | .scene _, none => []
  | .scene _, some _ | .reload, _ => (v.atTarget x).entryFrames false
  | .song .., _ => v.songFrames x ++ (v.atTarget x).entryFrames true

/-- Taking the target brings no second taking: a song that is entered has no cue at bar 1, beat 1 (R85, R89, R103). -/
def Part.TakesAlone (v : Part) (x : Resolved) : Prop :=
  match x with
  | .song .. => ∀ pl ∈ v.placeOf x, ∀ c ∈ (v.tables.songs[pl.song]).cueList, ¬(c.bar = 1 ∧ c.beat = 1)
  | .scene _ | .reload => True

/-- `t` is the part after the target `x` has been taken from `v`, with `before` offered before the taking and `more` after
it. Asked: it brings no second taking. -/
def Part.Took (v t : Part) (x : Resolved) (before more : List (Port × QueueItem)) : Prop :=
  v.TakesAlone x → (v.taken x).Clicked t (before ++ v.takenFrames x ++ more)

/-! ### Requests, cues and beats (R80 to R84, R89 to R91) -/

/-- The CHANGE SUPERSEDED notice of a replaced request (R81, 12.4). -/
def Part.supersededNotices (s : Part) (old : PendingChange) (new : Source) : List (Port × QueueItem) :=
  s.notices .changeSuperseded (changeLayout (some old) ++ [word (sourceBits old.source + sourceBits new * 256)])

/-- The CHANGE REFUSED notice of a pedal or cue request as given, with the result that refuses it: 7 BAD INDEX, 10 LOWER
PRIORITY (R81, 12.4). A bar or argument that it has none of is sent as 0 (log 34). -/
def Part.refusedNotices (s : Part) (source : Source) (g : Target) (b : Boundary) (priority why : Nat) :
    List (Port × QueueItem) :=
  s.notices .changeRefused (requestLayout g b priority ++ [word (sourceBits source + why * 256)])

/-- A cue of `w` asks for a change, which is IMMEDIATE and has the song's cue priority: refused with BAD INDEX or LOWER
PRIORITY, dropped where the part is there already, else taken, in place of a pending request with its notice (R80, R81,
R90, R91). -/
def Part.Asked (w t : Part) (g : Target) (before more : List (Port × QueueItem)) : Prop :=
  let priority := w.activeSong.elim 0 SongRecord.cuePriority
  let refused (why : Nat) : Prop :=
    w.Clicked t (before ++ w.refusedNotices .cue g .immediate priority why ++ more)
  match w.resolveTarget g, w.setlist.pending with
  | none, _ => refused 7
  | some x, none => if w.alreadyAt x = true then w.Clicked t (before ++ more) else w.Took t x before more
  | some x, some old =>
    if priority < old.priority then refused 10
    else w.Took t x (before ++ w.supersededNotices old .cue) more

/-- STOP in `u`, which makes it `h`: `stopFrames` are offered, and a pending request is then taken (R83, R98). -/
def Part.Stops (u h t : Part) (before more : List (Port × QueueItem)) : Prop :=
  match u.setlist.pending with
  | none => h.Offered t (before ++ u.stopFrames ++ more)
  | some r => h.Took t r.target (before ++ u.stopFrames) more

/-- The cue that a beat start at the position of `v` fires: it stands there, and the position is later than the mark, or
equal to a mark that is not passed (R89). -/
def Part.dueCue (v : Part) : Option CueAction :=
  let x := v.tempo
  let m := v.setlist
  if m.markBar < x.bar ∨ (m.markBar = x.bar ∧ (m.markBeat < x.beat ∨ (m.markBeat = x.beat ∧ m.markPassed = false))) then
    v.activeSong.bind fun r =>
      (r.cueList.find? fun c => c.bar == x.bar && c.beat == x.beat).bind fun c =>
        match c.action with
        | 0 => some (.scene c.argument)
        | 1 => some .nextSong
        | 2 => some .muteOn
        | 3 => some .muteOff
        | 4 => some .stop
        | 5 => some (.cue c.argument c.width)
        | _ => none
  else none

/-- What the cue that fires does to `w`, whose mark is set (R89 to R91). -/
def Part.CueActs (w t : Part) (before more : List (Port × QueueItem)) : Option CueAction → Prop
  | none => w.Clicked t (before ++ more)
  | some .muteOn => Part.Clicked { w with click := { w.click with cueMute := true } } t (before ++ more)
  | some .muteOff => Part.Clicked { w with click := { w.click with cueMute := false } } t (before ++ more)
  | some (.cue n width) =>
    Part.Clicked { w with click := { w.click with cue := some { number := n, timer := w.now + width * 1000 } } } t
      (before ++ w.cueStops ++ w.cueFrames true n ++ more)
  | some .stop => if w.tempo.followSong = true then w.Clicked t (before ++ more) else w.Stops w.halted t before more
  | some (.scene k) => w.Asked t (.sceneAt k) before more
  | some .nextSong => w.Asked t .nextSong before more

/-- The pending request that a beat start at the position meets (R82). -/
def Part.met (v : Part) : Option Resolved :=
  v.setlist.pending.bind fun r =>
    match r.boundary with
    | .immediate => none
    | .nextBeat => some r.target
    | .nextBar => if v.tempo.beat = 1 then some r.target else none
    | .atBar b => if v.tempo.beat = 1 ∧ b ≤ v.tempo.bar then some r.target else none

/-- The pending request that a count beat meets (R83). -/
def Part.metByCount (v : Part) : Option Resolved :=
  v.setlist.pending.bind fun r =>
    match r.boundary with
    | .nextBeat | .nextBar => some r.target
    | .immediate | .atBar _ => none

/-! ### Ticks, START and STOP (R93, R96 to R102) -/

/-- The position of `v` is handed on as a tick in RUNNING: CLICK offers its frames, and at a beat start the request that
it meets is taken, and then the cue that is due fires, unless a song has been entered (R84, R89, R93). -/
def Part.HandsOn (v t : Part) (before more : List (Port × QueueItem)) : Prop :=
  let its := before ++ v.barLookup.tickFrames
  let w := v.ticked
  if v.tempo.tick ≠ 0 then w.Clicked t (its ++ more)
  else match v.met with
    | none => w.CueActs t its more v.dueCue
    | some x =>
      if x.isSong = true then w.Took t x its more
      else (w.taken x).CueActs t (its ++ w.takenFrames x) more v.dueCue

/-- RUNNING has begun in `v`: a TRANSPORT START to each clocked port, the TRANSPORT notice, and the tick at the position
(R97, R100, R102, R124). -/
def Part.RunsFrom (v t : Part) (before more : List (Port × QueueItem)) : Prop :=
  v.allStarted.HandsOn t (before ++ v.transportFrames true ++ v.transportNotices) more

/-- A count beat in `v`: its COUNT clicks and then `told`, and the taking of the request that it meets (R83, R101,
R119). -/
def Part.CountsOn (v t : Part) (c : CountState) (before told more : List (Port × QueueItem)) : Prop :=
  let its := before ++ v.countClicks c ++ told
  match v.metByCount with
  | none => v.Offered t (its ++ more)
  | some x => v.Took t x its more

/-- COUNTING IN begins in `u`: the entry of bar 1 looked up, count beat 1, and the TRANSPORT notice (R100, R101). -/
def Part.CountsFrom (u t : Part) (before more : List (Port × QueueItem)) : Prop :=
  let y := ({ u with tempo := { u.tempo with bar := 1, beat := 1, tick := 0 } }).lookup 1
  let c : CountState :=
    { beat := 1, total := u.tempo.countInBars * y.tempo.numerator, tick := 0, numerator := y.tempo.numerator }
  let v := { y with tempo := { y.tempo with transport := .countingIn c, acc := 0 } }
  v.CountsOn t c before v.transportNotices more

/-- START from STOPPED (R97): COUNTING IN from bar 1, beat 1, tick 0 where the song has count-in bars, otherwise RUNNING
from the kept position. -/
def Part.Starts (u t : Part) (before more : List (Port × QueueItem)) : Prop :=
  let x := u.tempo
  if x.bar = 1 ∧ x.beat = 1 ∧ x.tick = 0 ∧ 0 < x.countInBars then u.CountsFrom t before more
  else Part.RunsFrom { u with tempo := { x with transport := .running, acc := 0 } } t before more

/-- The position at the beat start that follows tick 47: the next beat, or beat 1 of the next bar, at most 9999 (R93). -/
def Part.atNextBeat (s : Part) : Part :=
  let x := s.tempo
  { s with tempo :=
    if x.beat < x.numerator then { x with tick := 0, beat := x.beat + 1 }
    else { x with tick := 0, beat := 1, bar := bump 9999 x.bar } }

/-- A tick of the accumulator or of a source CLOCK in `u`: in COUNTING IN the count tick, the next count beat past 47, and
RUNNING at the position past the last one; in RUNNING the next position (R93, R101, R102). -/
def Part.Ticks (u t : Part) (before : List (Port × QueueItem)) : Prop :=
  let x := u.tempo
  match x.transport with
  | .stopped => u.Offered t before
  | .countingIn c =>
    if c.tick < 47 then
      Part.Offered { u with tempo := { x with transport := .countingIn { c with tick := c.tick + 1 } } } t before
    else if c.beat < c.total then
      let c' := { c with tick := 0, beat := c.beat + 1 }
      Part.CountsOn { u with tempo := { x with transport := .countingIn c' } } t c' before [] []
    else Part.RunsFrom { u with tempo := { x with transport := .running } } t before []
  | .running =>
    (if x.tick < 47 then { u with tempo := { x with tick := x.tick + 1 } } else u.atNextBeat).HandsOn t before []

/-- The part at the accumulator's next tick, the interval subtracted, before the position advances (R94). -/
def Part.atTick (s : Part) : Part :=
  let u := s.elapse s.untilTick
  { u with tempo := { u.tempo with
    acc := u.tempo.acc - tickInterval s.effectiveTempo, lastTick := some u.now } }

/-! ### The end of a drain (R69, R76, R113, R126, R160, R193) -/

/-- SETLIST's values at start-up and at a drain end: position 0, with its song and that song's first scene (R76). -/
def Tables.startSetlist (ts : Tables) : SetlistState :=
  { position := 0, pending := none, markBar := 1, markBeat := 1, markPassed := false
    place := (ts.setlist.songs[0]?).map fun n => { song := n, scene := sceneNo (ts.songs[n]).firstScene } }

/-- TEMPO's values there, from the active song; the timing source is kept (R112, R113). That the follow mark, the count-in
bars and the first tempo are held is the model's (log 12), and so are the last tick (log 32) and the 0 for the source
timer's length (log 27). -/
def TempoState.atStart (x : TempoState) (song : Option SongRecord) : TempoState :=
  let first := song.bind fun r => entryAt r.tempoMap 1
  let tempo := first.elim 12000 TempoEntry.tempo
  { transport := .stopped, bar := 1, beat := 1, tick := 0, acc := 0, lastTick := none, mapTempo := tempo
    numerator := first.elim 4 TempoEntry.numerator, denominator := first.elim 4 TempoEntry.denominator
    firstTempo := first.elim 12000 fun e => (song.bind fun r => r.tempoMap.head?).elim e.tempo TempoEntry.tempo
    override := none, lastTap := none, taps := [], follow := .waiting, measured := tempo, window := []
    lastClock := none, sourceTimer := none, sourceLength := 0, source := x.source
    followSong := song.any SongRecord.follow, countInBars := song.elim 0 SongRecord.countInBars }

/-- The part with SETLIST, TEMPO and the generations at those values: CURRENT is built with number 0 from the active
place, and PRIOR is EMPTY (R68, R69, R76, R112, R113). -/
def Part.atStart (u : Part) : Part :=
  let v := { u with setlist := u.tables.startSetlist }
  { v with tempo := u.tempo.atStart v.activeSong
           scene := { u.scene with prior := none, current := some (v.generationOf 0) } }

/-- What WATCH keeps of a presence record at a drain end (R160). -/
def Presence.keptAtRestart (m : Presence) : Presence :=
  { Presence.reset with lastReason := m.lastReason, peak := m.peak, worstGap := m.worstGap }

/-- What the drain end makes of the play state. -/
def Part.AtDrainEnd (t : Part) : Prop :=
  t.console.drain = none ∧ t.console.cause = .restart ∧ t.notes.entries = [] ∧
  (∀ p : Port, t.role p = .modulePort → t.module p = (t.module p).keptAtRestart) ∧
  (∀ p : Port, t.substitute p = none ∧ t.scene.settle[p] = none ∧ t.click.started[p] = false) ∧
  t.click.cue = none ∧ t.click.cueMute = false ∧ t.setlist = t.tables.startSetlist ∧
  t.tempo = t.tempo.atStart t.activeSong ∧ t.scene.prior = none ∧ t.scene.current = some (t.generationOf 0)

/-- The part `u`, whose drain has emptied the table, with the play state reset; tables, stored set, claim, load, commit,
flags, masks, counters, held pedal mutes, last reasons, peaks, worst gaps, settle expiries and the black box are kept. -/
def Part.restarted (u : Part) : Part :=
  let v := u.atStart
  { v with
    scene := { v.scene with settle := Vector.replicate 12 none }
    click := { u.click with cue := none, cueMute := false, started := Vector.replicate 12 false }
    watch := { u.watch with
      modules := Vector.ofFn fun p => if u.role p = .modulePort then (u.module p).keptAtRestart else u.module p
      map := Vector.replicate 12 none }
    console := { u.console with drain := none, cause := .restart } }

/-- What the drain end offers: a MODULE notice for each module that was not ABSENT, the frames and the notice of a change
into STOPPED, the stop of a sounding cue, SCENE ENTERED, and the reply of the RESTART (R57, R69, R100, R113, R122, R158,
R160, R193). The order of the blocks is the model's (log 16). -/
def Part.restartFrames (u : Part) (d : Drain) : List (Port × QueueItem) :=
  let v := u.restarted
  ((List.finRange 12).flatMap fun p =>
    if u.role p = .modulePort ∧ (u.module p).state ≠ .absent then
      u.notices .module_ [word (p.val + presenceBits (u.module p).state * 16), (v.module p).layout, 15]
    else []) ++
    (if u.tempo.transport = .stopped then u.cueStops
     else u.transportFrames false ++ u.cueStops ++ v.transportNotices) ++
    u.notices .sceneEntered (placeLayout 0 v.setlist.place 0 ++ [256]) ++
    [toPort d.port (.reply 20 d.tag.toNat .done [])]

/-- `t` is `u` after the drain end; the last frame offered is the reply of the RESTART. -/
def Part.Drained (u t : Part) : Prop :=
  t.AtDrainEnd ∧ ∀ d ∈ u.console.drain,
    u.restarted.Offered t (u.restartFrames d) ∧
    (u.isUp d.port = true → (t.link d.port).queue.length < 32 →
      (t.link d.port).queue.getLast? = some { frame := .reply 20 d.tag.toNat .done [], entry := none })

/-! ### Reset (R47, R68, R76, R112, R126, R134, R159, R178, R182, R183, R191, R194, R195) -/

/-- The values of the blocks at device reset. The manual gives them but for these, which are the model's choice: the
active position record, position 0 with song and scene none (log 5), filtered levels, armed states and debounce counts
before the first sample (log 6), what TEMPO keeps of a song (log 12), the last IDENT (log 21), a waiting IDENT (log 22)
and the last tick (log 32). -/
def Part.AtReset (s : Part) : Prop :=
  s.now = 0 ∧ s.starting = true ∧ (∀ p : Port, s.transmits p = .silent) ∧
  (∀ p : Port, (s.link p).sending = none ∧ (s.link p).freeAt = 0 ∧ (s.link p).lastIdent = none ∧
    (s.link p).identWaiting = false ∧ (s.link p).phase = .down ∧ (s.link p).queue = [] ∧ (s.link p).burst = 0 ∧ (s.link p).faults = [] ∧
    (s.link p).frameFaults = 0 ∧ (s.link p).losses = 0 ∧ (s.link p).unexpected = 0 ∧ (s.link p).identTimer = none ∧
    (s.link p).refusalTimer = none ∧ (s.link p).faultHold = none) ∧
  s.notes.entries = [] ∧ (∀ p : Port, s.notes.deferOverflow[p] = 0 ∧ s.notes.sustainFrame[p] = false) ∧
  (∀ i : Trigger, s.notes.holds[i] = none) ∧
  s.scene.current = none ∧ s.scene.prior = none ∧
  (∀ p : Port, s.scene.settle[p] = none ∧ s.scene.expiries[p] = 0) ∧
  s.setlist.position = 0 ∧ s.setlist.place = none ∧
  s.setlist.pending = none ∧ s.setlist.markBar = 1 ∧ s.setlist.markBeat = 1 ∧ s.setlist.markPassed = false ∧
  s.tempo.transport = .stopped ∧ s.tempo.bar = 1 ∧ s.tempo.beat = 1 ∧ s.tempo.tick = 0 ∧ s.tempo.acc = 0 ∧
  s.tempo.override = none ∧ s.tempo.lastTap = none ∧ s.tempo.taps = [] ∧ s.tempo.follow = .waiting ∧
  s.tempo.window = [] ∧ s.tempo.lastClock = none ∧ s.tempo.sourceTimer = none ∧ s.tempo.mapTempo = 12000 ∧
  s.tempo.numerator = 4 ∧ s.tempo.denominator = 4 ∧ s.tempo.measured = 12000 ∧ s.tempo.source = none ∧
  s.tempo.followSong = false ∧ s.tempo.countInBars = 0 ∧ s.tempo.firstTempo = 12000 ∧ s.tempo.lastTick = none ∧
  s.pedal.lastSample = none ∧ s.pedal.filtered = 255 ∧
  (∀ i : Trigger, s.pedal.held[i] = false ∧ s.pedal.armed[i] = false ∧ s.pedal.counts[i] = 0) ∧
  s.click.cue = none ∧ s.click.cueMute = false ∧ (∀ i : Trigger, s.click.heldMutes[i] = false) ∧
  (∀ p : Port, s.click.started[p] = false) ∧
  (∀ p : Port, s.module p = Presence.reset ∧ s.substitute p = none) ∧ s.watch.blackBox = none ∧
  s.console.owner = none ∧ s.console.load = none ∧ s.console.commit = none ∧ s.console.drain = none ∧
  (∀ f : Flag, s.console.flags.has f = false) ∧ ∀ p : Port, s.console.masks[p] = 255

end Sys2Proof.Machine
end

