-- ==== Sys2Proof/Certificates/Slice0/Obligations.lean ====
section
/-!
DEFINITION. The statements for the provers. The rules they come from are named in their docstrings; `Completes`,
`Part.Reported` and the other words they are made of stand in Sys2Proof/Safety.lean. A clause that rests on the model's
own choice names its log entry.
-/

open Sys2Proof Sys2Proof.Machine

/-! ### Steps -/

/-- A step runs the command at the front of the queue on the state with the queue's rest. -/
def Obligations.StepRunsTheFrontCommand : Prop :=
  ∀ (c : Instr) (rest : List Instr) (s : State),
    step { s with pending := c :: rest } = exec c { s with pending := rest }

/-- Every command answers a next state and leaves the rest of the queue as it was: the manual gives the part no event
that stops it. On an empty queue a step runs the first event that is due, and with none due one microsecond passes: rig
time advances, and the accumulator gains 65536 where it gathers (R94). That an empty queue lets time pass is the model's
choice (log 2). -/
def Obligations.EveryStepCompletes : Prop :=
  (∀ (c : Instr) (s : State), ∃ p : Machine.Part, exec c s = .next { part := p, pending := s.pending }) ∧
  ∀ s : State, s.pending = [] →
    step s = match s.part.firstDue with
      | some c => exec c s
      | none => .next (s.becomes { s.part with
          now := s.part.now + 1
          tempo := { s.part.tempo with
            acc := if s.part.tempo.transport ≠ .stopped ∧
                ¬(s.part.tempo.followSong = true ∧ s.part.tempo.follow = .following)
              then s.part.tempo.acc + 65536 else s.part.tempo.acc } })

/-! ### Reset and start-up -/

/-- DEVICE_RESET gives every block its reset values, silences every transmitter and sets the reset cause; a reset during
WRITING spoils the stored set, and another keeps it (R190, R191). The manual gives those values but for these, which are
the model's: carriers and pin levels, which are kept, and the filtered levels, armed states and debounce counts before
the first sample (log 6); the active position record until the store load, position 0 with song and scene none (log 5);
what TEMPO keeps of a song (log 12); the last IDENT (log 21) and a waiting one (log 22); the last tick (log 32). -/
def Obligations.DeviceResetSetsTheResetValues : Prop :=
  ∀ (powerOn : Bool) (s : State),
    Completes (.deviceReset powerOn) s fun t =>
      t.AtReset ∧ t.console.cause = (if powerOn then .powerOn else .resetLine) ∧
      t.stored = (if s.part.console.commit.any Commit.writing then none else s.part.stored) ∧
      (∀ p : Port, (t.link p).carrier = (s.part.link p).carrier) ∧ t.pedal.levels = s.part.pedal.levels

/-- The state of the model after reset holds the reset values, and every law of Sys2Proof/Safety.lean holds of it. Some
of those values are the model's (log 5, 6, 12, 21, 22, 32). -/
def Obligations.ResetStateIsAtReset : Prop :=
  State.reset.pending = [] ∧ State.reset.part.AtReset ∧ State.reset.part.QueuesHold ∧ State.reset.part.TimesHold ∧
  State.reset.part.LossesHold ∧ State.reset.part.WatchHolds ∧ State.reset.part.NotesHold

/-- STORE_LOAD fills table memory from the stored set, or with the defaults where its check fails, with STORE INVALID
raised; SETLIST and TEMPO take their start-up values, TEMPO's from the active song and with its timing source kept,
SCENE builds CURRENT with number 0, and each port goes OFF, IDENT or DOWN (R68, R76, R112, R178, R191). Everything else
is unchanged. The transmitters are silent until then; after it, and with nothing left to leave, they are silent in OFF,
send the IDENT of a port in IDENT, and idle words in DOWN (R164, R166). That TEMPO holds the follow mark, the count-in
bars and the first tempo of the song is the model's (log 12), as is the last tick (log 32), an IDENT that waits (log
22), and the 0 for the source timer's length (log 27). -/
def Obligations.StoreLoadStartsTheBlocks : Prop :=
  ∀ s : State, s.part.starting = true → s.part.StartHolds →
    (∀ p : Port, s.part.transmits p = .silent) ∧
    Completes .storeLoad s fun t =>
      t = { s.part with starting := false, tables := t.tables, setlist := t.setlist, scene := t.scene, tempo := t.tempo,
                        links := t.links, console := { s.part.console with flags := t.console.flags } } ∧
      t.tables = s.part.stored.getD .default ∧
      t.console.flags = (if s.part.stored.isSome then s.part.console.flags else s.part.console.flags.add .storeInvalid) ∧
      (let v := Part.atStart { s.part with tables := t.tables }
       t.setlist = v.setlist ∧ t.tempo = v.tempo ∧ t.scene = v.scene) ∧
      ∀ p : Port,
        t.link p = (if t.role p = .off then { s.part.link p with phase := .off }
          else if (s.part.link p).carrier = true then (s.part.link p).beginsIdent s.part.now (t.role p).expected
          else s.part.link p) ∧
        ((s.part.link p).freeAt ≤ s.part.now → t.transmits p =
          if t.role p = .off then .silent
          else if (s.part.link p).carrier = true then .frame (.ident (t.role p).expected)
          else .idle)

/-! ### PEDAL -/

/-- The first sample after start-up sets the filtered levels to the levels read and the armed states by conformity, and
fires nothing (R134). A trigger with an empty mask is not in conformity (R129). -/
def Obligations.FirstSampleArmsWithoutFiring : Prop :=
  ∀ (levels : BitVec 8) (s : State), s.part.starting = false → s.part.pedal.lastSample = none →
    Completes (.pedalSample levels) s fun t =>
      t = { s.part.elapse (t.now - s.part.now) with pedal := t.pedal } ∧
      t.now = (s.part.now + 999) / 1000 * 1000 ∧ t.pedal.lastSample = some ((s.part.now + 999) / 1000) ∧
      t.pedal.levels = levels ∧ t.pedal.filtered = levels ∧
      ∀ i : Trigger, t.pedal.counts[i] = 0 ∧ t.pedal.held[i] = false ∧
        t.pedal.armed[i] = decide ((s.part.trigger i).mask ≠ 0 ∧
          levels &&& (s.part.trigger i).mask = (s.part.trigger i).pattern &&& (s.part.trigger i).mask)

/-- A later sample filters each line: a level that differs from the filtered one for as many samples as the debounce
time becomes the filtered level, a shorter difference does not (R127). Where no trigger's conformity differs from its
armed state, nothing else happens (R130). -/
def Obligations.SampleFiltersTheLines : Prop :=
  ∀ (levels : BitVec 8) (s : State), s.part.starting = false → s.part.pedal.lastSample ≠ none →
    Completes (.pedalSample levels) s fun t =>
      (∀ i : Fin 8,
        let raw := levels.getLsbD i.val
        let old := s.part.pedal.filtered.getLsbD i.val
        let count := s.part.pedal.counts[i] + 1
        (raw = old → t.pedal.counts[i] = 0 ∧ t.pedal.filtered.getLsbD i.val = old) ∧
        (raw ≠ old → count < s.part.tables.pedal.debounce[i] →
          t.pedal.counts[i] = count ∧ t.pedal.filtered.getLsbD i.val = old) ∧
        (raw ≠ old → s.part.tables.pedal.debounce[i] ≤ count →
          t.pedal.counts[i] = 0 ∧ t.pedal.filtered.getLsbD i.val = raw)) ∧
      ((∀ i : Trigger, (s.part.trigger i).conforms t.pedal.filtered = s.part.pedal.armed[i]) →
        t = s.part.sampled levels)

/-- A TAP trigger that fires alone in a song that does not follow: the first tap, or one more than 2,000 ms after the
last counted one, starts a series; one less than 200 ms after it is ignored; another sets the override from the average
of the youngest intervals, clamped to 3000-30000 (R104, R105). -/
def Obligations.TapSetsTheOverride : Prop :=
  ∀ (levels : BitVec 8) (i : Trigger) (s : State),
    s.part.MovesAlone levels i true false → (s.part.trigger i).action = .tap → s.part.tempo.followSong = false →
    let u := (s.part.sampled levels).setArmed i false
    exec (.pedalSample levels) s = .next (s.becomes <| { u with tempo :=
      match u.tempo.lastTap with
      | none => { u.tempo with lastTap := some u.now, taps := [] }
      | some t0 =>
        let d := u.now - t0
        let taps := (u.tempo.taps ++ [d]).drop ((u.tempo.taps ++ [d]).length - 8)
        let youngest := taps.drop (taps.length - u.tables.pedal.tapCount)
        let avg := youngest.sum / youngest.length
        if d < 200000 then u.tempo
        else if 2000000 < d then { u.tempo with lastTap := some u.now, taps := [] }
        else { u.tempo with lastTap := some u.now, taps := taps,
                            override := some (clamp 3000 30000 ((6000000000 + avg / 2) / avg)) } })

/-- A CLICK MUTE trigger that fires alone begins a level action and joins the held pedal mutes; when it is in conformity
again its level action ends and it leaves them (R115, R130, R133). -/
def Obligations.ClickMutePedalIsHeld : Prop :=
  ∀ (levels : BitVec 8) (i : Trigger) (s : State), (s.part.trigger i).action = .clickMute →
    let u := s.part.sampled levels
    (s.part.MovesAlone levels i true false →
      exec (.pedalSample levels) s = .next (s.becomes <| { u with
        pedal := { u.pedal with armed := upd u.pedal.armed i fun _ => false, held := upd u.pedal.held i fun _ => true }
        click := { u.click with heldMutes := upd u.click.heldMutes i fun _ => true } })) ∧
    (s.part.MovesAlone levels i false true → s.part.pedal.held[i] = true →
      exec (.pedalSample levels) s = .next (s.becomes <| { u with
        pedal := { u.pedal with armed := upd u.pedal.armed i fun _ => true, held := upd u.pedal.held i fun _ => false }
        click := { u.click with heldMutes := upd u.click.heldMutes i fun _ => false } }))

/-! ### LINK: carrier, phases, timers -/

/-- Carrier that becomes present moves a port that is DOWN with no fault hold into IDENT, which sends an IDENT; carrier
lost out of UP makes IDENT and REFUSED go DOWN with their timers stopped. Nothing else changes (R164, R165, R166). While
the store load runs the port stays DOWN (R178). That carrier is recorded in every phase, OFF among them, is the model's
(log 6), and that a busy transmitter sends the IDENT later (log 22). -/
def Obligations.CarrierMovesAPortOutOfService : Prop :=
  ∀ (p : Port) (s : State),
    exec (.carrierPresent p) s = .next (s.becomes <| s.part.updLink p fun l =>
      if l.phase = .down ∧ l.faultHold = none ∧ s.part.starting = false then
        { l with carrier := true }.beginsIdent s.part.now (s.part.role p).expected
      else { l with carrier := true }) ∧
    (s.part.isUp p = false →
      exec (.carrierLost p) s = .next (s.becomes <| s.part.updLink p fun l =>
        if l.phase = .ident ∨ l.phase = .refused then
          { l with carrier := false, phase := .down, identTimer := none, refusalTimer := none, identWaiting := false }
        else { l with carrier := false }))

/-- A port that leaves UP, by carrier lost, by an IDENT offering another role, or by an eighth frame fault within 1,000
ms, enters DOWN, REFUSED with the refusal timer at 2,000 ms, or DOWN with a 200 ms fault hold. Its loss is counted up to
255, its recent faults are emptied and its queue is flushed (R164, R167, R169, R175). Other ports gain frames at most;
table memory, the stored set and PEDAL are unchanged. The blocks of its role are told. CONTROLLER: its SOUNDING and
SUSTAINED entries become RELEASE OWED (SOURCE LOST), its DEFERRED ones are deleted, and its sustain state is cleared.
CONSOLE: the claim it holds becomes free, with a CLAIM notice, and its load is abandoned. TIMING: the timing source is
chosen anew, and the follow window emptied where it changes. BAND: nothing beyond its link (R36, R38, R107, R182, R185).
MODULE: every entry destined to it leaves the table without release, its presence timer, last presence time and started
stop, an ACTIVE module departs with LINK DOWN, and the other states act as ModuleLossTakesItsNotesOut has them (R39,
R125, R141, R142, R146). What a move or a refused copy offers to the peak, and the names of copies, are the model's (log
13, 14), and so is the reset cause in a FLAG RAISED notice (log 34). Where that, or the deletion of DEFERRED entries,
empties the table of a RESTART drain, the drain ends within the event (R48; log 15, 16; what TEMPO then keeps, log
12). -/
def Obligations.LeavingUpTearsThePortDown : Prop :=
  ∀ (p : Port) (c : Instr) (u : Machine.Part) (l : LinkPort) (s : State), s.part.isUp p = true →
    s.part.WayOut p c u l →
    let v := u.updLink p fun _ => l
    let quiet (es : List Entry) : Prop := s.part.console.drain = none ∨ es ≠ []
    Completes c s (fun t => t.now = u.now ∧ t.tables = u.tables ∧ t.stored = u.stored ∧ t.pedal = u.pedal ∧ t.link p = l ∧
      ∀ q : Port, q ≠ p → { t.link q with queue := (u.link q).queue } = u.link q ∧
        (u.link q).queue <+: (t.link q).queue) ∧
    (s.part.role p = .controller →
      let es := (s.part.notes.entries.map fun e =>
          if e.srcPort = p ∧ e.rings = true then { e with state := .owed .sourceLost 0 } else e).filter fun e =>
        !(e.isDeferred && e.srcPort == p)
      let x := v.withEntries es
      let w := { x with notes := x.notes.cleared p }
      (quiet es → exec c s = .next (s.becomes w)) ∧ (¬quiet es → Completes c s fun t => w.Drained t)) ∧
    (s.part.role p = .band → quiet s.part.notes.entries → exec c s = .next (s.becomes v)) ∧
    (s.part.role p = .console → quiet s.part.notes.entries → Completes c s fun t =>
      Part.Offered { v with console := { v.console with
          owner := if v.console.owner = some p then none else v.console.owner
          load := if v.console.load.map Load.owner = some p then none else v.console.load } } t
        (if v.console.owner = some p then v.notices .claim [word (p.val + 15 * 16)] else [])) ∧
    (s.part.role p = .timing → quiet s.part.notes.entries →
      let best := (List.finRange 12).find? fun q => v.isUp q && v.role q == .timing
      exec c s = .next (s.becomes { v with tempo :=
        if best = v.tempo.source then v.tempo
        else { v.tempo with source := best, window := [], lastClock := none } })) ∧
    (s.part.role p = .modulePort → s.part.NamesHold → Completes c s fun t =>
      (s.part.console.drain = none ∨ t.notes.entries ≠ [] → u.ModuleLost t p) ∧
      (s.part.console.drain ≠ none → t.notes.entries = [] → t.AtDrainEnd)) ∧
    (s.part.role p = .modulePort → s.part.console.drain ≠ none →
      (∀ e ∈ s.part.notes.entries, e.dest = p ∧ e.isOwed = true) → Completes c s Part.AtDrainEnd)

/-- When a MODULE port loses its carrier in UP, every entry destined to it leaves the table without release, its
presence timer stops and started becomes no. An ACTIVE module departs with reason LINK DOWN; in OUT the reason joins the
set; in RECOVERING, COOLDOWN and WAITING the module goes back to OUT; ABSENT and BARRED stay (R39, R125, R141, R142,
R146, R175). What a move or a refused copy offers to the peak (log 13), the names of copies (log 14), and the reset
cause in a FLAG RAISED notice (log 34) are the model's. -/
def Obligations.ModuleLossTakesItsNotesOut : Prop :=
  ∀ (p : Port) (s : State), s.part.isUp p = true → s.part.role p = .modulePort → s.part.console.drain = none →
    s.part.NamesHold → Completes (.carrierLost p) s fun t => s.part.ModuleLost t p

/-- The link timers run out at their deadlines: a fault hold, or a refusal timer, gives IDENT where carrier is present,
and the IDENT timer starts again with another IDENT. Nothing else changes but time (R166, R169). That an IDENT waits for
a busy transmitter is the model's (log 22). -/
def Obligations.LinkTimersRunOut : Prop :=
  ∀ (p : Port) (d : Nat) (s : State),
    let u := s.part.elapse (d - s.part.now)
    ((s.part.link p).faultHold = some d →
      exec (.faultHoldExpiry p) s = .next (s.becomes <| u.updLink p fun l =>
        if l.carrier = true then { l with faultHold := none }.beginsIdent u.now (u.role p).expected
        else { l with faultHold := none })) ∧
    ((s.part.link p).refusalTimer = some d →
      exec (.refusalTimerExpiry p) s = .next (s.becomes <| u.updLink p fun l =>
        if l.carrier = true then l.beginsIdent u.now (u.role p).expected else { l with refusalTimer := none })) ∧
    ((s.part.link p).identTimer = some d →
      exec (.identTimerExpiry p) s = .next (s.becomes <| u.updLink p fun l =>
        { l with identTimer := some (u.now + 200000) }.sendsIdent u.now (u.role p).expected))

/-- An IDENT by the phase it meets. In OFF and DOWN none is taken. In IDENT and REFUSED, one offering the expected role
brings the port UP, and the blocks of its role are told, a module that this makes RECOVERING with its MODULE notice; one
offering another role gives REFUSED with the refusal timer at 2,000 ms. In UP, one offering the expected role changes no
phase and is answered by one IDENT, unless one was sent on the port within the last 200 ms; a full queue refuses the
answer, with QUEUE OVERFLOW raised and its notice (R146, R158, R165, R166, R167, R171, R176, R194, R195). That an answer
which waits in the queue stands for sent, and one flushed from it does not, is the model's (log 21), and so is that an
IDENT which still waits for the transmitter is not sent once the port has left IDENT (log 22), and the reset cause in
the FLAG RAISED notice (log 34). -/
def Obligations.IdentIsTakenByPhase : Prop :=
  ∀ (wait : Nat) (p : Port) (offered : BitVec 3) (s : State),
    let u := s.part.elapse wait
    let v := u.updLink p LinkPort.entersUp
    let recent := (u.link p).lastIdent.any fun t0 => decide (u.now < t0 + 200000)
    let queued := (u.link p).queue.any fun it => it.frame.kind == 0
    ((s.part.link p).phase = .off ∨ (s.part.link p).phase = .down →
      exec (.ident wait p offered) s = .next (s.becomes u)) ∧
    (s.part.isUp p = true → offered.toNat = (u.role p).expected →
      (recent = true ∨ queued = true → exec (.ident wait p offered) s = .next (s.becomes u)) ∧
      (recent = false → queued = false → u.HasRoom p →
        exec (.ident wait p offered) s = .next (s.becomes <| u.plus p (.ident offered.toNat))) ∧
      (recent = false → queued = false → ¬u.HasRoom p → Completes (.ident wait p offered) s fun t =>
        (u.withFlag .queueOverflow).Offered t (u.flagNotices .queueOverflow))) ∧
    ((s.part.link p).phase = .ident ∨ (s.part.link p).phase = .refused →
      (offered.toNat ≠ (u.role p).expected → exec (.ident wait p offered) s = .next (s.becomes <|
        u.updLink p fun l => { l with phase := .refused, identTimer := none, identWaiting := false,
                                      refusalTimer := some (u.now + 2000000) })) ∧
      (offered.toNat = (u.role p).expected →
        (u.role p = .controller ∨ u.role p = .band → exec (.ident wait p offered) s = .next (s.becomes v)) ∧
        (u.role p = .console → exec (.ident wait p offered) s = .next (s.becomes <|
          { v with console := { v.console with masks := upd v.console.masks p fun _ => 255 } })) ∧
        (u.role p = .timing →
          let best := (List.finRange 12).find? fun q => v.isUp q && v.role q == .timing
          exec (.ident wait p offered) s = .next (s.becomes <| { v with tempo :=
            if best = v.tempo.source then v.tempo
            else { v.tempo with source := best, window := [], lastClock := none } })) ∧
        (u.role p = .modulePort → Completes (.ident wait p offered) s fun t =>
          let m := u.module p
          let left := { m.reasons with linkDown := false }
          let timer := some (u.now + (u.moduleFields p).presenceTimeout * 1000)
          let recovers : Prop := m.state = .out ∧ left = .empty
          let recovering := { m with state := .recovering, reasons := left, progress := 0, presenceTimer := timer }
          Part.Offered (v.updModule p fun _ =>
            if m.state = .absent ∨ m.state = .barred then m
            else if recovers then recovering
            else if m.state = .out then { m with reasons := left, presenceTimer := timer }
            else { m with presenceTimer := timer }) t
            (if recovers then v.notices .module_
              [word (p.val + 2 * 16), recovering.layout, word (portBits (u.substitute p))] else []))))

/-- A frame fault is discarded: none is taken in OFF and DOWN; in IDENT and REFUSED it is counted; in UP it is counted
and its time joins the recent faults, the oldest leaving at an eighth that makes no burst (R168, R169). -/
def Obligations.FrameFaultIsCounted : Prop :=
  ∀ (wait : Nat) (p : Port) (s : State),
    let u := s.part.elapse wait
    let phase := (s.part.link p).phase
    (phase = .off ∨ phase = .down → exec (.frameFault wait p) s = .next (s.becomes u)) ∧
    (phase = .ident ∨ phase = .refused → exec (.frameFault wait p) s = .next (s.becomes <|
      u.updLink p fun l => { l with frameFaults := bump 65535 l.frameFaults })) ∧
    (phase = .up → (s.part.link p).faults.length < 7 → exec (.frameFault wait p) s = .next (s.becomes <|
      u.updLink p fun l => { l with frameFaults := bump 65535 l.frameFaults, faults := l.faults ++ [u.now] })) ∧
    ∀ (oldest : Nat) (rest : List Nat), phase = .up → (s.part.link p).faults = oldest :: rest → rest.length = 6 →
      oldest + 1000000 ≤ u.now → exec (.frameFault wait p) s = .next (s.becomes <|
        u.updLink p fun l => { l with frameFaults := bump 65535 l.frameFaults, faults := rest ++ [u.now] })

/-- A frame of a kind that its port's phase and role do not accept is discarded, and the port's unexpected-frame count
rises, to at most 65535; in OFF and DOWN no frame is taken. UNEXPECTED_FRAME is such a frame in every role (R165,
R170). -/
def Obligations.FramesNotAcceptedAreCounted : Prop :=
  ∀ (c : Instr) (f : Received) (s : State), frameOf c = some f →
    let u := s.part.elapse f.wait
    let phase := (s.part.link f.port).phase
    (phase = .off ∨ phase = .down → exec c s = .next (s.becomes u)) ∧
    (phase = .ident ∨ phase = .refused ∨ (phase = .up ∧ f.role ≠ some (s.part.role f.port)) →
      exec c s = .next (s.becomes <| u.updLink f.port fun l => { l with unexpected := bump 65535 l.unexpected }))

/-! ### ZONE and NOTES -/

/-- R9: the sent strike of a zone: curve, gain with offset, clamp, with the ranges the rule gives. -/
def Obligations.SentStrikeFollowsR9 : Prop :=
  ∀ (s : Machine.Part) (z : ZoneRecord) (strike : Nat), 1 ≤ strike → strike ≤ 1023 → z.curve ≤ 8 → z.gain ≤ 127 →
    -512 ≤ z.offset → z.offset ≤ 511 → (∀ c ∈ s.tables.curves.toList, ∀ y ∈ c.toList, y ≤ 1023) →
    ∃ c g : Int,
      (z.curve = 8 → c = strike) ∧
      (∀ curve ∈ s.tables.curves.toList[z.curve]?,
        let i := strike / 128
        let f := strike - 128 * i
        ∃ a ∈ curve.toList[i]?, ∃ b ∈ curve.toList[i + 1]?, i ≤ 7 ∧ f ≤ 127 ∧
          c = a + Int.fdiv (((b : Int) - a) * f + 64) 128 ∧ min a b ≤ c ∧ c ≤ max a b) ∧
      0 ≤ c ∧ c ≤ 1023 ∧ c * z.gain ≤ 129921 ∧
      g = Int.fdiv (c * z.gain + 32) 64 + z.offset ∧ -512 ≤ g ∧ g ≤ 2541 ∧
      (s.sentStrike z strike : Int) = max 1 (min 1023 g)

/-- R10: the sent key of a zone: the transposed key where it lies within 0-127; outside it, none under DROP, and under
FOLD the first key within 0-127 on the way by twelves from the edge that was crossed. -/
def Obligations.SentKeyFollowsR10 : Prop :=
  ∀ (z : ZoneRecord) (key : Nat), key ≤ 127 → -48 ≤ z.transpose → z.transpose ≤ 48 →
    let k : Int := key + z.transpose
    k ≤ 175 ∧ -48 ≤ k ∧
    (0 ≤ k ∧ k ≤ 127 → (z.sentKey key).map Int.ofNat = some k) ∧
    (¬(0 ≤ k ∧ k ≤ 127) → z.fold = false → z.sentKey key = none) ∧
    (127 < k → z.fold = true → ∃ n : Nat, ∃ sent ∈ z.sentKey key,
      (sent : Int) = k - 12 * n ∧ sent ≤ 127 ∧ 127 < (sent : Int) + 12 ∧ 116 ≤ sent) ∧
    (k < 0 → z.fold = true → ∃ n : Nat, ∃ sent ∈ z.sentKey key,
      (sent : Int) = k + 12 * n ∧ (sent : Int) - 12 < 0 ∧ sent ≤ 11)

/-- A key-down that no zone of CURRENT takes makes the retrigger step alone: its earlier entries in CURRENT are deleted
where DEFERRED and released where SOUNDING or SUSTAINED; those in PRIOR are released where SOUNDING (R12, R26). -/
def Obligations.KeyDownWithNoZoneRetriggers : Prop :=
  ∀ (p : Port) (key : BitVec 7) (strike : BitVec 10) (s : State), s.part.isUp p = true →
    s.part.role p = .controller → s.part.zoneResult p key.toNat (max 1 strike.toNat) = [] →
    let own (e : Entry) : Bool := e.srcPort == p && e.srcKey == key.toNat
    let isCurrent (e : Entry) : Bool := e.gen == s.part.currentNumber
    exec (.keyDown p key strike) s = .next (s.becomes <| s.part.withEntries <|
      (s.part.notes.entries.filter fun e => !(own e && isCurrent e && e.isDeferred)).map fun e =>
        if own e = true ∧ (e.isSounding = true ∨ (e.isSustained = true ∧ isCurrent e = true)) then
          { e with state := .owed .retrigger 0 }
        else e)

/-- A key-down that one zone of CURRENT takes, with room in its module's budget and in the table and no earlier note in
its way. With a module that is not settling and room in its queue, the entry joins the table SOUNDING with key-down
pending yes and its KEY DOWN joins the queue. With a settling module, the entry joins DEFERRED and no frame is offered;
with 16 DEFERRED entries on the module the oldest of them is deleted first, and the defer-overflow count rises, to at
most 65535. A full queue refuses the KEY DOWN: no entry is made, and QUEUE OVERFLOW is raised, its notice going to the
queues that have room (R8, R11, R12, R24, R31, R32, R171, R194). The name of the entry is the model's own (log 14), and
that a refused creation offers no kept count to the peak is the model's reading (log 13), as is the reset cause in the
FLAG RAISED notice (log 34). Key-downs that several zones
take, or that meet a collision, a full table or a drain, are in KeyDownStealsAtTheBudget. -/
def Obligations.KeyDownSoundsOrDefers : Prop :=
  ∀ (p : Port) (key : BitVec 7) (strike : BitVec 10) (before : List ZoneRecord) (z : ZoneRecord)
    (after : List ZoneRecord) (sent : Nat) (d : Port) (s : State), s.part.isUp p = true →
    s.part.role p = .controller → s.part.OneZone p key.toNat (max 1 strike.toNat) before z after sent d →
    s.part.Untouched p key.toNat d z.slot sent → s.part.console.drain = none →
    s.part.kept d < (s.part.moduleFields d).voiceBudget → s.part.notes.entries.length < 256 →
    let made (state : EntryState) (waits : Bool) : Entry :=
      s.part.newEntry p key.toNat (max 1 strike.toNat) before.length z sent d state waits
    let u := s.part.withEntries s.part.notes.entries
    (s.part.isSettling d = false → s.part.HasRoom d → exec (.keyDown p key strike) s = .next (s.becomes <|
      (u.withNewEntry (made .sounding true)).updLink d fun l => { l with queue := l.queue ++
        [{ frame := .keyDown z.slot sent (s.part.sentStrike z (max 1 strike.toNat))
           entry := some s.part.notes.nextName }] })) ∧
    (s.part.isSettling d = false → s.part.isUp d = true → ¬s.part.HasRoom d → Completes (.keyDown p key strike) s fun t =>
      (u.withFlag .queueOverflow).Offered t (u.flagNotices .queueOverflow)) ∧
    (s.part.isSettling d = true →
      (s.part.deferredCount d < 16 → exec (.keyDown p key strike) s = .next (s.becomes <|
        u.withNewEntry (made .deferred false))) ∧
      ∀ (xs ys : List Entry) (v : Entry), s.part.notes.entries = xs ++ v :: ys → v.dest = d → v.isDeferred = true →
        (∀ x ∈ xs, ¬(x.dest = d ∧ x.isDeferred = true)) → (∀ x ∈ xs ++ ys, x.name ≠ v.name) →
        s.part.deferredCount d = 16 → exec (.keyDown p key strike) s = .next (s.becomes <|
          let t := u.withEntries (xs ++ ys)
          ({ t with notes := { t.notes with
              deferOverflow := upd t.notes.deferOverflow d (bump 65535) } }).withNewEntry (made .deferred false)))

/-- The same key-down with the module's voice budget used up: the entry that comes first in the order of R29 is stolen,
deleted where DEFERRED and RELEASE OWED (STOLEN) otherwise, STEAL is raised, and the new entry then sounds (R29). And
every key-down, whatever zones take it: each zone of CURRENT that covers it, gives a sent key and resolves to a module
has an item, in index order. The retrigger step is made; then each item, but for one equal to an earlier one in
destination, slot and sent key, makes the collision, budget, table-full and create steps on the table that the one
before has left. A full table creates nothing and raises NOTE TABLE FULL; during a drain a new SOUNDING entry is RELEASE
OWED (RESTART) at once and no DEFERRED one is created (R10, R11, R12, R26, R27, R28, R29, R30, R31, R32, R48). A flag
raised makes its FLAG RAISED notice (R194). What the peak is offered, and the names, are the model's (log 13, 14), and
so is the reset cause in the notice (log 34). -/
def Obligations.KeyDownStealsAtTheBudget : Prop :=
  (∀ (p : Port) (key : BitVec 7) (strike : BitVec 10) (before : List ZoneRecord) (z : ZoneRecord)
     (after : List ZoneRecord) (sent : Nat) (d : Port) (xs : List Entry) (v : Entry) (ys : List Entry) (s : State),
     s.part.isUp p = true → s.part.role p = .controller →
     s.part.OneZone p key.toNat (max 1 strike.toNat) before z after sent d →
     s.part.Untouched p key.toNat d z.slot sent → s.part.console.drain = none → s.part.isSettling d = false →
     s.part.kept d = (s.part.moduleFields d).voiceBudget → s.part.notes.entries.length < 256 → s.part.HasRoom d →
     s.part.role d = .modulePort → s.part.NamesHold → s.part.IsVictim d xs v ys →
     let e := s.part.newEntry p key.toNat (max 1 strike.toNat) before.length z sent d .sounding true
     let t0 := s.part.withEntries s.part.notes.entries
     let t1 := if v.isDeferred = true then t0.withEntries (xs ++ ys)
       else t0.setEntries (xs ++ { v with state := .owed .stolen 0 } :: ys)
     Completes (.keyDown p key strike) s fun t =>
       Part.Reported ((t1.withNewEntry e).updLink d fun l =>
         { l with queue := l.queue ++ [{ frame := .keyDown z.slot sent e.strike, entry := some e.name }] }) t ∧
       t.console.flags.steal = true) ∧
  (∀ (p : Port) (key : BitVec 7) (strike : BitVec 10) (s : State), s.part.isUp p = true → s.part.role p = .controller →
    s.part.NamesHold →
    let items := s.part.scene.current.elim [] fun g => g.zones.zipIdx.filterMap fun x =>
      if x.1.covers p key.toNat (max 1 strike.toNat) = true then
        (x.1.sentKey key.toNat).bind fun sent => (s.part.leadsTo x.1.port).map fun d =>
          ({ zone := x.2, gen := g.number, dest := d, slot := x.1.slot, key := sent
             strike := s.part.sentStrike x.1 (max 1 strike.toNat) } : ResultItem)
      else none
    exec (.keyDown p key strike) s = .next (s.becomes <|
      (s.part.retriggered p key.toNat).itemsTaken p key.toNat [] items)) ∧
  ∀ (f : Flag) (u : Machine.Part), (u.withFlag f).Offered (u.raise f) (u.flagNotices f) ∧
    (u.withFlag .queueOverflow).Offered u.raiseOverflow (u.flagNotices .queueOverflow)

/-- R33: a key-up acts on the entries of its source port and key, in either generation. -/
def Obligations.KeyUpFollowsR33 : Prop :=
  ∀ (p : Port) (key : BitVec 7) (strike : BitVec 10) (s : State), s.part.isUp p = true →
    s.part.role p = .controller →
    exec (.keyUp p key strike) s = .next (s.becomes <| s.part.withEntries <|
      s.part.notes.entries.filterMap fun e =>
        if e.srcPort = p ∧ e.srcKey = key.toNat then
          match e.state with
          | .deferred => none
          | .sounding =>
            if (s.part.zoneOf e).any ZoneRecord.sustainFollow = true ∧ s.part.sustainDown p = true then
              some { e with state := .sustained }
            else some { e with state := .owed .keyUp strike.toNat }
          | .sustained | .owed .. => some e
        else some e)

/-- A SUSTAIN event sets the frame part of its port's sustain state: down from 512, up below. Where the state thereby
changes from down to up, every SUSTAINED entry of the port becomes RELEASE OWED (SUSTAIN LIFT); otherwise no entry
changes, and the SOUNDING ones never do (R14, R34, R35). A SUSTAIN trigger that fires alone begins a level action and
holds the port it names, 12-15 naming none; when it is in conformity again the hold ends, and lifts where nothing else
keeps the port's state down (R130, R131, R133). -/
def Obligations.SustainLiftFollowsR35 : Prop :=
  ∀ (p : Port) (value : BitVec 10) (levels : BitVec 8) (i : Trigger) (s : State),
    let lifted (u : Machine.Part) (q : Port) : List Entry := u.notes.entries.map fun e =>
      if e.isSustained = true ∧ e.srcPort = q then { e with state := .owed .sustainLift 0 } else e
    (s.part.isUp p = true → s.part.role p = .controller →
      let pedalPart := s.part.notes.holds.toList.any fun h => h.any fun x => x.port == p && !x.disregarded
      exec (.sustain p value) s = .next (s.becomes <| { s.part with notes := { s.part.notes with
        sustainFrame := upd s.part.notes.sustainFrame p fun _ => decide (512 ≤ value.toNat)
        entries := if s.part.notes.sustainFrame[p] = true ∧ value.toNat < 512 ∧ pedalPart = false then lifted s.part p
          else s.part.notes.entries } })) ∧
    ((s.part.trigger i).action = .sustain → s.part.MovesAlone levels i true false →
      let u := ((s.part.sampled levels).setArmed i false).setHeld i true
      (12 ≤ (s.part.trigger i).parameter → exec (.pedalSample levels) s = .next (s.becomes u)) ∧
      ∀ q : Port, (s.part.trigger i).parameter = q.val → exec (.pedalSample levels) s = .next (s.becomes
        { u with notes := { u.notes with
          holds := upd u.notes.holds i fun _ => some { port := q, disregarded := false } } })) ∧
    ((s.part.trigger i).action = .sustain → s.part.MovesAlone levels i false true → s.part.pedal.held[i] = true →
      let u := ((s.part.sampled levels).setArmed i true).setHeld i false
      (s.part.notes.holds[i] = none → exec (.pedalSample levels) s = .next (s.becomes u)) ∧
      ∀ h ∈ s.part.notes.holds[i],
        let lifts := h.disregarded = false ∧ s.part.notes.sustainFrame[h.port] = false ∧
          ∀ j : Trigger, j ≠ i → ∀ x ∈ s.part.notes.holds[j], x.port = h.port → x.disregarded = true
        exec (.pedalSample levels) s = .next (s.becomes { u with notes := { u.notes with
          holds := upd u.notes.holds i fun _ => none
          entries := if lifts then lifted u h.port else u.notes.entries } }))

/-- A PRESSURE goes to the SOUNDING entries of its port and key whose own zone passes pressure: one PRESSURE frame to
each one's destination with its slot and sent key, in creation order. Nothing else changes (R15). -/
def Obligations.PressureGoesToSoundingEntries : Prop :=
  ∀ (p : Port) (key : BitVec 7) (value : BitVec 10) (s : State), s.part.isUp p = true →
    s.part.role p = .controller →
    let frames := (s.part.notes.entries.filter fun e =>
        e.srcPort == p && e.srcKey == key.toNat && e.isSounding && (s.part.zoneOf e).any ZoneRecord.pressurePass).map
      fun e => (e.dest, ({ frame := .pressure e.slot e.key value.toNat, entry := none } : QueueItem))
    s.part.RoomFor frames → exec (.pressure p key value) s = .next (s.becomes <| s.part.plusItems frames)

/-- A CONTROL goes to the zones of CURRENT that hear its port and pass its number, then to those of PRIOR that also own
a SOUNDING or SUSTAINED entry. Their destinations are resolved, equal pairs are sent one frame, and the frames join the
queues in order. Nothing else changes (R11, R16, R17, R18). -/
def Obligations.ControlGoesToItsZones : Prop :=
  ∀ (p : Port) (controller : BitVec 8) (value : BitVec 10) (s : State), s.part.isUp p = true →
    s.part.role p = .controller →
    let n := controller.toNat
    let passes (z : ZoneRecord) : Bool := z.sources.getLsbD p.val && match z.filterMode with
      | .all => true
      | .list => ([z.list0, z.list1, z.list2, z.list3].take z.listCount).contains n
      | .none_ | .reserved => false
    let current := s.part.scene.current.elim [] fun g => g.zones.filter passes
    let prior := s.part.scene.prior.elim [] fun g =>
      (g.zones.zipIdx.filter fun x => passes x.1 && s.part.notes.entries.any fun e =>
        e.gen == g.number && e.zone == x.2 && e.rings).map Prod.fst
    let goesTo (z : ZoneRecord) : Option (Port × Nat) := (s.part.leadsTo z.port).map fun d => (d, z.slot)
    let frames := ((current ++ prior).filterMap goesTo).eraseDups.map fun x =>
      (x.1, ({ frame := .control x.2 n value.toNat, entry := none } : QueueItem))
    s.part.RoomFor frames → exec (.control p controller value) s = .next (s.becomes <| s.part.plusItems frames)

/-! ### WATCH and SCENE -/

/-- The first READY or SETTLING of an ABSENT module makes it ACTIVE, with its presence and steady timers started. It is
recorded for the out modules whose backup it is and that have none; its settle begins where CURRENT holds a preset for
it or for one of them, whose PRESET frames it is sent: its own, then theirs in port number order. The MODULE notice
comes last (R60, R140, R144, R158). Nothing else changes but queues, which only grow, and flags. -/
def Obligations.AbsentModuleBecomesActive : Prop :=
  ∀ (ready : Bool) (wait : Nat) (p : Port) (s : State), s.part.isUp p = true → s.part.role p = .modulePort →
    (s.part.module p).state = .absent → s.part.isSettling p = false →
    let u := s.part.elapse wait
    let gained (x : Port) : Bool := x != p && u.isOut x && (u.moduleFields x).backup == some p &&
      (u.substitute x).isNone
    Completes (if ready then .presenceReady wait p else .presenceSettling wait p) s fun t =>
      t = { u with links := t.links, scene := { u.scene with settle := t.scene.settle }, watch := t.watch,
                   console := { u.console with flags := t.console.flags } } ∧
      Part.Offered { t with links := u.links, console := { t.console with flags := u.console.flags } } t
        (u.presetsFor p p ++ ((List.finRange 12).filter gained).flatMap (u.presetsFor p) ++
          u.notices .module_ [word p.val, (t.module p).layout, word (portBits (u.substitute p))]) ∧
      t.watch.blackBox = u.watch.blackBox ∧
      t.module p = { u.module p with
        state := .active, reasons := .empty, lastTime := some (u.now / 1000)
        presenceTimer := some (u.now + (u.moduleFields p).presenceTimeout * 1000)
        steadyTimer := some (u.now + (u.moduleFields p).steadyPeriod * 1000000) } ∧
      (∀ q : Port, q ≠ p → t.module q = u.module q ∧ t.scene.settle[q] = u.scene.settle[q]) ∧
      (∀ x : Port, t.substitute x = if gained x then some p else u.substitute x) ∧
      t.scene.settle[p] =
        (if u.currentPresets.any (fun e => e.port == p.val || allPorts.any fun x => gained x && e.port == x.val)
         then some { seen := false, timer := u.now + (u.moduleFields p).settleLimit * 1000 } else none)

/-- A PRESENCE FAULT: ABSENT keeps its state; an ACTIVE module departs with reason FAULT REPORTED; in OUT the reason
joins the set; RECOVERING, COOLDOWN and WAITING go back to OUT; BARRED stays. The presence timer restarts but in ABSENT
and BARRED (R139, R140, R141, R146). What a move or a refused copy offers
to the peak (log 13), the names of copies (log 14), and the reset cause in a FLAG RAISED notice (log 34) are the
model's. -/
def Obligations.PresenceFaultTakesAModuleOut : Prop :=
  ∀ (wait : Nat) (p : Port) (s : State), s.part.isUp p = true → s.part.role p = .modulePort → s.part.NamesHold →
    let u := s.part.elapse wait
    let m := gapTaken (u.module p) (u.now / 1000)
    let timer := some (u.now + (u.moduleFields p).presenceTimeout * 1000)
    (m.state = .absent ∨ m.state = .barred →
      exec (.presenceFault wait p) s = .next (s.becomes <| u.updModule p fun _ => m)) ∧
    (m.state = .active → Completes (.presenceFault wait p) s fun t =>
      u.Departed t p .faultReported ∧ (t.module p).presenceTimer = timer ∧ (t.module p).lastTime = m.lastTime ∧
      (t.module p).worstGap = m.worstGap) ∧
    (m.state = .out → exec (.presenceFault wait p) s = .next (s.becomes <|
      u.updModule p fun _ => { m with reasons := m.reasons.add .faultReported, presenceTimer := timer })) ∧
    (m.state = .recovering ∨ m.state = .cooldown ∨ m.state = .waiting →
      Completes (.presenceFault wait p) s fun t => Part.Reported (u.updModule p fun _ =>
        { m with state := .out, reasons := .only .faultReported, lastReason := some .faultReported,
                 cooldownTimer := none, progress := 0, presenceTimer := timer }) t)

/-- READY and SETTLING of a module that is out: in OUT, READY clears PRESENCE TIMEOUT and FAULT REPORTED and SETTLING
clears FAULT REPORTED, and an empty set makes the module RECOVERING; in RECOVERING, READY is counted, and at the
recovery count the module enters COOLDOWN; with a cooldown of 0 it enters WAITING within the event, reporting both
changes, and with policy IMMEDIATE goes on to ACTIVE: with no substitute and the steady timer started, with its presets
and those of the out modules that it is then recorded for sent, and its settle begun where there are any; COOLDOWN and
WAITING take neither. The presence timer restarts; BARRED keeps its own (R60, R62, R139, R144, R146, R149, R150, R151,
R152, R158). -/
def Obligations.PresenceOfAnOutModule : Prop :=
  ∀ (ready : Bool) (wait : Nat) (p : Port) (s : State), s.part.isUp p = true → s.part.role p = .modulePort →
    s.part.isSettling p = false →
    let c : Instr := if ready then .presenceReady wait p else .presenceSettling wait p
    let u := s.part.elapse wait
    let m := gapTaken (u.module p) (u.now / 1000)
    let f := u.moduleFields p
    let timer := some (u.now + f.presenceTimeout * 1000)
    let left : Reasons := { m.reasons with faultReported := false
                                           presenceTimeout := if ready then false else m.reasons.presenceTimeout }
    let told (old : Nat) (n : Presence) : List (Port × QueueItem) :=
      u.notices .module_ [word (p.val + old * 16), n.layout, word (portBits (u.substitute p))]
    let recovering := { m with state := .recovering, reasons := left, progress := 0 }
    (m.state = .out → Completes c s fun t => Part.Offered (u.updModule p fun _ =>
      if left = .empty then { recovering with presenceTimer := timer }
      else { m with reasons := left, presenceTimer := timer }) t (if left = .empty then told 2 recovering else [])) ∧
    (m.state = .recovering → ready = true → bump 8 m.progress < f.recoveryCount →
      exec c s = .next (s.becomes <| u.updModule p fun _ =>
        { m with progress := bump 8 m.progress, presenceTimer := timer })) ∧
    (m.state = .recovering → ready = true → f.recoveryCount ≤ bump 8 m.progress → 0 < f.cooldown →
      let cooled := { m with state := .cooldown, progress := bump 8 m.progress
                             cooldownTimer := some (u.now + f.cooldown * 1000) }
      Completes c s fun t => Part.Offered (u.updModule p fun _ => { cooled with presenceTimer := timer }) t
        (told 3 cooled)) ∧
    (m.state = .recovering → ready = true → f.recoveryCount ≤ bump 8 m.progress → f.cooldown = 0 →
      let cooled := { m with state := .cooldown, progress := bump 8 m.progress, cooldownTimer := none }
      let waiting := { cooled with state := .waiting }
      (f.returnPolicy ≠ .immediate → Completes c s fun t => Part.Offered
        (u.updModule p fun _ => { waiting with presenceTimer := timer }) t (told 3 cooled ++ told 4 waiting)) ∧
      (f.returnPolicy = .immediate → Completes c s fun t =>
        let v := u.updModule p fun _ => waiting
        Part.Offered ((v.backInService p).updModule p fun n => { n with presenceTimer := timer }) t
          (told 3 cooled ++ told 4 waiting ++ v.backFrames p))) ∧
    (m.state = .cooldown ∨ m.state = .waiting ∨ (m.state = .recovering ∧ ready = false) →
      exec c s = .next (s.becomes <| u.updModule p fun _ => { m with presenceTimer := timer })) ∧
    (m.state = .barred → exec c s = .next (s.becomes <| u.updModule p fun _ => m))

/-- READY and SETTLING of an ACTIVE module, by its settle: not settling, nothing more than the presence timer and the
gap; SETTLING makes seen yes; READY before a SETTLING is passed over; READY after one ends the settle, the DEFERRED
entries of the module are sent, and none is left on it (R42, R63, R65). -/
def Obligations.SettleReportsFollowR63 : Prop :=
  ∀ (ready : Bool) (wait : Nat) (p : Port) (s : State), s.part.isUp p = true → s.part.role p = .modulePort →
    (s.part.module p).state = .active → s.part.NamesHold →
    let c : Instr := if ready then .presenceReady wait p else .presenceSettling wait p
    let u := s.part.elapse wait
    let v := u.updModule p fun m => { gapTaken m (u.now / 1000) with
      presenceTimer := some (u.now + (u.moduleFields p).presenceTimeout * 1000) }
    (s.part.isSettling p = false → exec c s = .next (s.becomes v)) ∧
    (∀ x ∈ s.part.scene.settle[p],
      (x.seen = false → ready = true → exec c s = .next (s.becomes v)) ∧
      (x.seen = true → ready = false → exec c s = .next (s.becomes v)) ∧
      (x.seen = false → ready = false → exec c s = .next (s.becomes <| v.setSettle p (some { x with seen := true }))) ∧
      (x.seen = true → ready = true → Completes c s fun t =>
        t = ((v.setSettle p none).deferredOn p).foldl Part.entrySent (v.setSettle p none) ∧
        t = { v with links := t.links, notes := { v.notes with entries := t.notes.entries }
                     scene := { v.scene with prior := t.scene.prior, settle := upd v.scene.settle p fun _ => none }
                     console := { v.console with flags := t.console.flags } } ∧
        ∀ e ∈ t.notes.entries, e.dest = p → e.isDeferred = false))

/-- A settle timer that runs out ends the settle and is counted, to at most 65535. With room for their KEY DOWN frames
the module's DEFERRED entries are sent in creation order: each becomes SOUNDING with key-down pending yes, and a ringing
entry in its way becomes RELEASE OWED (COLLISION). With a full queue an entry whose KEY DOWN is refused is deleted, QUEUE
OVERFLOW is raised, and the next is sent (R24, R42, R64, R65). -/
def Obligations.SettleTimerSendsTheDeferred : Prop :=
  ∀ (p : Port) (x : Settle) (s : State), s.part.scene.settle[p] = some x → s.part.NamesHold → s.part.NotesDistinct →
    let u := s.part.elapse (x.timer - s.part.now)
    let sent := u.notes.entries.filter fun e => e.dest == p && e.isDeferred
    let frames := sent.map fun e =>
      (p, ({ frame := .keyDown e.slot e.key e.strike, entry := some e.name } : QueueItem))
    let v := { u with scene := { u.scene with expiries := upd u.scene.expiries p (bump 65535)
                                              settle := upd u.scene.settle p fun _ => none } }
    exec (.settleTimerExpiry p) s = .next (s.becomes ((v.deferredOn p).foldl Part.entrySent v)) ∧
    (u.RoomFor frames → exec (.settleTimerExpiry p) s = .next (s.becomes <|
      (v.plusItems frames).setEntries <| u.notes.entries.map fun e =>
        if e.dest = p ∧ e.isDeferred = true then { e with state := .sounding, pending := true }
        else if e.rings = true ∧ sent.any (fun f => e.plays p f.slot f.key) = true then
          { e with state := .owed .collision 0 }
        else e))

/-- A presence timer that runs out takes an ACTIVE module out with PRESENCE TIMEOUT, adds that reason in OUT, and sends
RECOVERING, COOLDOWN and WAITING back to OUT (R139, R141, R146). It runs in no other state but BARRED, where it changes
nothing more (log 29). What a move or a refused copy offers
to the peak (log 13), the names of copies (log 14), and the reset cause in a FLAG RAISED notice (log 34) are the
model's. -/
def Obligations.PresenceTimerTakesAModuleOut : Prop :=
  ∀ (p : Port) (d : Nat) (s : State), (s.part.module p).presenceTimer = some d → s.part.NamesHold →
    s.part.isUp p = true →
    let u := (s.part.elapse (d - s.part.now)).updModule p fun m => { m with presenceTimer := none }
    let m := u.module p
    (m.state = .active → Completes (.presenceTimerExpiry p) s fun t =>
      u.Departed t p .presenceTimeout ∧ (t.module p).presenceTimer = none) ∧
    (m.state = .out → exec (.presenceTimerExpiry p) s = .next (s.becomes <|
      u.updModule p fun _ => { m with reasons := m.reasons.add .presenceTimeout })) ∧
    (m.state = .recovering ∨ m.state = .cooldown ∨ m.state = .waiting →
      Completes (.presenceTimerExpiry p) s fun t => Part.Reported (u.updModule p fun _ =>
        { m with state := .out, reasons := .only .presenceTimeout, lastReason := some .presenceTimeout
                 cooldownTimer := none, progress := 0 }) t) ∧
    (m.state = .absent ∨ m.state = .barred → exec (.presenceTimerExpiry p) s = .next (s.becomes u))

/-- The commanded timer removes COMMANDED, and an empty set makes the module RECOVERING; the cooldown timer makes
COOLDOWN WAITING, and ACTIVE with policy IMMEDIATE: with no substitute and the steady timer started, with its presets
and those of the out modules that it is then recorded for sent, and its settle begun where there are any; the steady
timer sets the loss count to 0. Each change of state makes its MODULE notice (R60, R62, R144, R146, R147, R150, R151,
R152, R154, R158). -/
def Obligations.ReturnTimersRunOut : Prop :=
  ∀ (p : Port) (d : Nat) (s : State),
    let u := s.part.elapse (d - s.part.now)
    let m := u.module p
    let told (old : Nat) (n : Presence) : List (Port × QueueItem) :=
      u.notices .module_ [word (p.val + old * 16), n.layout, word (portBits (u.substitute p))]
    (m.commandedTimer = some d →
      let left := { m.reasons with commanded := false }
      let recovering := { m with state := .recovering, reasons := left, progress := 0, commandedTimer := none }
      Completes (.commandedTimerExpiry p) s fun t => Part.Offered (u.updModule p fun _ =>
        if m.state ≠ .out then { m with commandedTimer := none }
        else if left = .empty then recovering
        else { m with reasons := left, commandedTimer := none }) t
        (if m.state = .out ∧ left = .empty then told 2 recovering else [])) ∧
    (m.cooldownTimer = some d → m.state = .cooldown →
      let v := u.updModule p fun _ => { m with state := .waiting, cooldownTimer := none }
      Completes (.cooldownTimerExpiry p) s fun t =>
        if (u.moduleFields p).returnPolicy = .immediate then
          Part.Offered (v.backInService p) t (told 4 (v.module p) ++ v.backFrames p)
        else Part.Offered v t (told 4 (v.module p))) ∧
    (m.steadyTimer = some d → exec (.steadyTimerExpiry p) s = .next (s.becomes <|
      u.updModule p fun m => { m with steadyTimer := none, loss := 0 }))

/-- R155: a load that writes a MODULE port's flap limit adjusts its loss count at once, and neither bars a module nor
frees a BARRED one. -/
def Obligations.FlapLimitFollowsR155 : Prop :=
  ∀ (s : Machine.Part) (p : Port) (new : ModuleFields), s.role p = .modulePort →
    let t := s.writePort p (.modulePort new)
    let old := s.module p
    (t.moduleFields p).flapLimit = new.flapLimit ∧
    ((t.module p).state = .barred ↔ old.state = .barred) ∧
    (t.module p).loss =
      if old.state = .barred then new.flapLimit
      else if new.flapLimit ≤ old.loss then new.flapLimit - 1
      else old.loss

/-! ### Records written by loads -/

/-- What a record written by a load does beyond table memory. Another role for a port: in UP, the port leaves UP and the
blocks of its old role act as where its carrier is lost (LeavingUpTearsThePortDown, ModuleLossTakesItsNotesOut); its
fault hold and timers stop, its presence record, substitute, settle, settle expiries, defer overflow and started are
fresh, no module keeps it as substitute, of a port newly CONTROLLER the frame part of its sustain state is up and no
trigger is disregarded (R36), so that a held SUSTAIN trigger naming it then acts (R34), and the port goes OFF, IDENT or
DOWN; nothing else changes. Where that empties the table of a RESTART drain, the drain ends within the write (log 15).
The same role: its link keeps its phase. A MODULE record cuts the kept notes above a lowered voice budget in the order
of R29, the oldest of a kind first, as BUDGET CUT with STEAL raised; a changed backup replaces the substitute; policy
IMMEDIATE returns a WAITING module, which is recorded for the out modules that it backs and is sent their presets and
its own; started is kept over a changed divisor (log 31) (R29, R34, R36, R40, R48, R144, R151, R161, R163; R155 is
stated for itself; the order is log 23). A pedal table arms every trigger by conformity without firing, ends the held
action of a changed trigger, and keeps filtered levels and counts (R35, R133, R135; a field its action does not read
counts, log 33). That an IDENT which still waits for the transmitter is dropped at a change of role, and that a frame
which is leaving holds the new IDENT back, is the model's (log 22), and so is what TEMPO holds after the drain's end
(log 12, 27, 32). -/
def Obligations.PortAndPedalRecordsActAsWritten : Prop :=
  ∀ (p : Port) (r : PortRecord) (old new : ModuleFields) (pedal : PedalTable) (s : Machine.Part),
    let grows (t : Machine.Part) (q : Port) : Prop :=
      { t.link q with queue := (s.link q).queue } = s.link q ∧ (s.link q).queue <+: (t.link q).queue
    (r.role ≠ s.role p → ∀ w : Machine.Part,
      (s.isUp p = true → exec (.carrierLost p) { part := s, pending := [] } = .next { part := w, pending := [] }) →
      (s.isUp p = false → w = s) →
      let t := s.writePort p r
      let left := if s.isUp p = true then (s.link p).leavesUp .down else s.link p
      let down := { left with
        phase := .down, identTimer := none, refusalTimer := none, identWaiting := false, faultHold := none }
      let link := if r.role = .off then { down with phase := .off }
        else if down.carrier = true then down.beginsIdent s.now r.role.expected else down
      t.tables = { s.tables with ports := s.tables.ports.set p r } ∧ t.link p = link ∧
      (∀ q : Port, q ≠ p → grows t q) ∧ t.now = s.now ∧ t.stored = s.stored ∧ t.pedal = s.pedal ∧
      (s.role p = .modulePort → s.isUp p = true → ∀ e ∈ t.notes.entries, e.dest ≠ p) ∧
      (s.console.drain = none ∨ w.console.drain ≠ none ∧ w.notes.entries ≠ [] →
        t = { w with
          tables := { s.tables with ports := s.tables.ports.set p r }
          links := upd w.links p fun _ => link
          notes := { w.notes with
            deferOverflow := upd w.notes.deferOverflow p fun _ => 0
            sustainFrame := if r = .controller then upd w.notes.sustainFrame p fun _ => false else w.notes.sustainFrame
            holds := if r = .controller then
                w.notes.holds.map fun h => h.map fun x => if x.port = p then { x with disregarded := false } else x
              else w.notes.holds }
          scene := { w.scene with
            settle := upd w.scene.settle p fun _ => none
            expiries := upd w.scene.expiries p fun _ => 0 }
          click := { w.click with started := upd w.click.started p fun _ => false }
          watch := { w.watch with
            modules := upd w.watch.modules p fun _ => .reset
            map := Vector.ofFn fun q => if q = p ∨ w.substitute q = some p then none else w.substitute q } }) ∧
      (s.console.drain ≠ none → s.role p = .modulePort → s.isUp p = true →
        (∀ e ∈ s.notes.entries, e.dest = p ∧ e.isOwed = true) → t.AtDrainEnd)) ∧
    (r.role = s.role p → r.role ≠ .modulePort →
      s.writePort p r = { s with tables := { s.tables with ports := s.tables.ports.set p r } }) ∧
    (s.port p = .modulePort old → s.SubstitutesHold →
      let t := s.writePort p (.modulePort new)
      let returns : Prop := (s.module p).state = .waiting ∧ new.returnPolicy = .immediate
      t = { s with
        tables := { s.tables with ports := s.tables.ports.set p (.modulePort new) }
        links := t.links, notes := { s.notes with entries := t.notes.entries }
        scene := { s.scene with prior := t.scene.prior, settle := t.scene.settle }
        watch := { s.watch with modules := t.watch.modules, map := t.watch.map }
        console := { s.console with flags := t.console.flags } } ∧
      (∀ q : Port, grows t q) ∧
      (s.kept p ≤ new.voiceBudget → t.notes = s.notes) ∧
      (new.voiceBudget < s.kept p → s.NamesHold →
        t.kept p = new.voiceBudget ∧ t.console.flags.steal = true ∧
        (∀ e ∈ s.notes.entries, e.dest ≠ p ∨ e.isOwed = true → e ∈ t.notes.entries) ∧
        (∀ e ∈ t.notes.entries, e ∈ s.notes.entries ∨ ∃ f ∈ s.notes.entries,
          f.dest = p ∧ f.rings = true ∧ e = { f with state := .owed .budgetCut 0 }) ∧
        ∀ (xs : List Entry) (f : Entry) (ys : List Entry), s.notes.entries = xs ++ f :: ys → f.dest = p →
          f ∉ t.notes.entries → ∀ e ∈ t.notes.entries, e.dest = p → ∀ k ∈ s.stealRank f, ∀ n ∈ s.stealRank e,
            (e ∈ xs → k < n) ∧ (e ∈ ys → k ≤ n)) ∧
      let written := { s with tables := t.tables }
      let back (v : Machine.Part) : Machine.Part := (v.backInService p).updModule p fun m =>
        { m with loss := min m.loss (new.flapLimit - 1) }
      (returns → t.watch = (back written).watch ∧
        (s.kept p ≤ new.voiceBudget → old.backup = new.backup →
          Part.Offered (back written) t (written.backFrames p)) ∧
        ∀ q : Port, t.scene.settle[q] =
          if q ≠ p ∧ old.backup ≠ new.backup ∧ new.backup.filter (s.eligible p) = some q ∧
            s.currentPresets.any (fun e => e.port == p.val) = true
          then some (s.settleNow q) else (back written).scene.settle[q]) ∧
      (¬returns →
        t.module p = { s.module p with loss := (t.module p).loss } ∧
        (∀ q : Port, q ≠ p → t.module q = s.module q ∧ t.substitute q = s.substitute q) ∧
        (old.backup = new.backup → t.substitute p = s.substitute p ∧ t.scene.settle = s.scene.settle) ∧
        (old.backup ≠ new.backup →
          t.substitute p = (if s.isOut p = true then new.backup.filter (s.eligible p) else none) ∧
          ∀ b ∈ t.substitute p, t.scene.settle[b] =
            if s.currentPresets.any (fun e => e.port == p.val) = true
            then some { seen := false, timer := s.now + (s.moduleFields b).settleLimit * 1000 }
            else s.scene.settle[b]))) ∧
    (let t := s.writePedal pedal
     let ended (i : Trigger) : Bool := s.pedal.held[i] && s.trigger i != pedal.triggers[i]
     t = { s with
       tables := { s.tables with pedal := pedal }
       pedal := { s.pedal with
         held := Vector.ofFn fun i => s.pedal.held[i] && !ended i
         armed := Vector.ofFn fun i => (pedal.triggers[i]).mask != 0 &&
           s.pedal.filtered &&& (pedal.triggers[i]).mask == (pedal.triggers[i]).pattern &&& (pedal.triggers[i]).mask }
       click := { s.click with
         heldMutes := Vector.ofFn fun i => s.click.heldMutes[i] && !(ended i && (s.trigger i).action == .clickMute) }
       notes := { s.notes with
         holds := Vector.ofFn fun i =>
           if ended i = true ∧ (s.trigger i).action = .sustain then none else s.notes.holds[i]
         entries := s.notes.entries.map fun e =>
           if e.isSustained = true ∧ s.sustainDown e.srcPort = true ∧ t.sustainDown e.srcPort = false then
             { e with state := .owed .sustainLift 0 }
           else e } })

/-! ### TEMPO and CLICK -/

/-- A tick of the accumulator: time passes until the accumulator reaches the tick interval, and at least 1 µs where it
has made a tick in this one; the interval is subtracted, and the residue stays. In COUNTING IN the count tick advances;
past count tick 47 the next count beat makes its COUNT clicks and takes a request that it meets, and past the last one
RUNNING begins with the tick at the position. In RUNNING the position advances: within a beat by a tick, at tick 47 to
the next beat, and after the last beat of a bar to the next bar, at most 9999; CLICK offers the CLOCK frames, SUB clicks
and the clicks of a beat start. A beat start takes the pending request that it meets; then the cue that is due asks for
its change, mutes, unmutes, sounds or stops the transport, where a pending request is taken, and where none is due
nothing else happens (R82, R83, R84, R89, R90, R93, R94, R101, R102, R116 to R124). Asked: a song that is entered has no
cue at its bar 1, beat 1. That the time of the last tick is kept is the model's (log 32). What TEMPO keeps of a song
(log 12), the work of a song entry's own beat after the whole entry (log 9), the cue mark set before the cue (log 10),
the places of TRANSPORT notices (log 17), the FORCED RELEASE bit (log 7), fields sent as 0 (log 34) and a scene entry of
the active song under an emptied setlist (log 35) are the model's. -/
def Obligations.AccumulatorTickAdvances : Prop :=
  ∀ s : State, s.part.tempo.transport ≠ .stopped →
    ¬(s.part.tempo.followSong = true ∧ s.part.tempo.follow = .following) → 0 < s.part.effectiveTempo →
    ∃ us : Nat,
      let i := 125000000 * 65536 / s.part.tempoNow
      let x := s.part.tempo
      let u := s.part.elapse us
      let residue := x.acc + us * 65536 - i
      i ≤ x.acc + us * 65536 ∧ (x.lastTick = some s.part.now → 1 ≤ us) ∧
      (us = 0 ∨ x.acc + (us - 1) * 65536 < i ∨ (us = 1 ∧ x.lastTick = some s.part.now)) ∧
      Completes .accumulatorTick s fun t =>
        Part.Ticks { u with tempo := { x with acc := residue, lastTick := some u.now } } t []

/-- A CLOCK of a TIMING port. One that is not the timing source's, and every one in a song that does not follow, is
passed over. A source CLOCK in a FOLLOW song: the interval since the last one joins the window, of at most the source's
follow window length; the measured tempo is computed from the average; the follow state becomes FOLLOWING, with a CLOCK
SOURCE notice out of HOLDOVER. In STOPPED nothing else happens. In COUNTING IN and RUNNING it restarts the source timer
at 8 times the average, or, with no interval kept, at 8 times the tick of the measured tempo, and makes a tick, which
acts as the accumulator's does: count ticks, count beats, the end of the count, ticks, and beat starts with what SETLIST
and CLICK do there (R82, R83, R84, R89, R90, R93, R101, R102, R107, R109, R123). The order within the CLOCK, and that
the timer's length is computed in STOPPED too, is the model's (log 27); so is a measured tempo in the range of tempos,
and nothing more, for an average of 0 (log 8). Asked: a song that is entered has no cue at its bar 1, beat 1. What TEMPO
keeps of a song (log 12), the work of a song entry's own beat after the whole entry (log 9), the cue mark set before the
cue (log 10), the places of TRANSPORT notices (log 17), the FORCED RELEASE bit (log 7), fields sent as 0 (log 34) and a
scene entry of the active song under an emptied setlist (log 35) are the model's. -/
def Obligations.SourceClockMeasuresAndTicks : Prop :=
  ∀ (wait n : Nat) (p : Port) (s : State), s.part.isUp p = true → s.part.port p = .timing n →
    let u := s.part.elapse wait
    (s.part.tempo.followSong = false ∨ s.part.tempo.source ≠ some p →
      exec (.sourceClock wait p) s = .next (s.becomes u)) ∧
    (s.part.tempo.followSong = true → s.part.tempo.source = some p →
      let x := u.tempo
      let joined := x.lastClock.elim x.window fun t0 => x.window ++ [u.now - t0]
      let window := if x.lastClock = none then x.window else joined.drop (joined.length - n)
      let avg := window.sum / window.length
      let known : Prop := window = [] ∨ 0 < avg
      let isMeasured (m : Nat) : Prop :=
        (known → m = if window = [] then x.measured else clamp 3000 30000 ((125000000 + avg / 2) / avg)) ∧
        (¬known → 3000 ≤ m ∧ m ≤ 30000)
      let length := if window = [] then 8 * (125000000 / x.measured) else 8 * avg
      let y (m : Nat) : TempoState :=
        { x with lastClock := some u.now, window := window, measured := m, sourceLength := length
                 follow := .following, acc := if x.follow = .following then x.acc else 0 }
      let w := { u with free := if window = [] ∨ 0 < avg then u.free else u.free + 1 }
      let told (m : Nat) : List (Port × QueueItem) := if x.follow = .holdover then
        w.notices .clockSource [word 1, word m, word x.bar, word (x.beat * 256 + x.tick)] else []
      (x.transport = .stopped → Completes (.sourceClock wait p) s fun t =>
        let m := t.tempo.measured
        isMeasured m ∧ Part.Offered { w with tempo := y m } t (told m)) ∧
      (x.transport ≠ .stopped → Completes (.sourceClock wait p) s fun t =>
        ∃ m : Nat, isMeasured m ∧
          Part.Ticks { w with tempo := { y m with sourceTimer := some (w.now + length) } } t (told m)))

/-- The TRANSPORT and POSITION frames of a TIMING port. Those of another port than the timing source, and all of them in
a song that does not follow, are passed over. In a FOLLOW song START makes STOPPED and COUNTING IN RUNNING at the kept
position, with the accumulator at 0 and the source timer at its last length where FOLLOWING; STOP makes RUNNING and
COUNTING IN STOPPED at the kept position, with the window emptied, the source timer and the cue stopped and started no
on every port, and a pending request is then taken. POSITION in STOPPED sets the position to its bar, clamped to 1-9999,
and its beat, clamped to 1-15 and to the numerator in force there, at tick 0, with the tempo-map entry looked up and the
cue mark moved; in RUNNING the tick there occurs as well; in COUNTING IN it is ignored. At a beat start the request that
it meets is taken, and the cue that is due fires (R82, R83, R84, R89, R90, R96, R98, R100, R102, R107, R108, R110, R122,
R124). Asked: a song that is entered has no cue at its bar 1, beat 1. What TEMPO keeps of a song (log 12), the work of a
song entry's own beat after the whole entry (log 9), the cue mark set before the cue (log 10), the places of TRANSPORT
notices (log 17), the FORCED RELEASE bit (log 7), fields sent as 0 (log 34) and a scene entry of the active song under
an emptied setlist (log 35) are the model's. -/
def Obligations.TransportAndPositionFramesAct : Prop :=
  ∀ (p : Port) (bar : BitVec 14) (beat : BitVec 4) (s : State), s.part.isUp p = true → s.part.role p = .timing →
    let x := s.part.tempo
    (x.followSong = false ∨ x.source ≠ some p → exec (.transportStartFrame p) s = .next s ∧
      exec (.transportStopFrame p) s = .next s ∧ exec (.positionFrame p bar beat) s = .next s) ∧
    (x.followSong = true → x.source = some p →
      (x.transport = .running → exec (.transportStartFrame p) s = .next s) ∧
      (x.transport ≠ .running → Completes (.transportStartFrame p) s fun t =>
        Part.RunsFrom { s.part with tempo := { x with
          transport := .running, acc := 0
          sourceTimer := if x.follow = .following then some (s.part.now + x.sourceLength) else x.sourceTimer } } t [] []) ∧
      (x.transport = .stopped → exec (.transportStopFrame p) s = .next s) ∧
      (x.transport ≠ .stopped → Completes (.transportStopFrame p) s fun t =>
        s.part.Stops { s.part.halted with tempo := { s.part.halted.tempo with
          window := [], lastClock := none, sourceTimer := none } } t [] []) ∧
      (let b := clamp 1 9999 bar.toNat
       let entry := s.part.activeSong.bind fun r => entryAt r.tempoMap b
       let n := entry.elim (clamp 1 15 beat.toNat) fun e => min (clamp 1 15 beat.toNat) e.numerator
       let v := ({ s.part with
         tempo := { x with bar := b, beat := n, tick := 0 }
         setlist := { s.part.setlist with markBar := b, markBeat := n, markPassed := false } }).lookup b
       (∀ c, x.transport = .countingIn c → exec (.positionFrame p bar beat) s = .next s) ∧
       (x.transport = .stopped → exec (.positionFrame p bar beat) s = .next (s.becomes v)) ∧
       (x.transport = .running → Completes (.positionFrame p bar beat) s fun t =>
         Part.HandsOn { v with tempo := { v.tempo with acc := if x.follow = .following then x.acc else 0 } } t [] [])))

/-- The source timer's expiry is the holdover: the follow window is emptied, the accumulator starts from 0, the measured
tempo keeps its value, and CLOCK SOURCE LOST is raised, with its notices (R111, R194; that FLAG RAISED carries the reset
cause is the model's, log 34). The cue timer's expiry stops the cue: every BAND port in UP, muted or not, is offered CUE
STOP with its number (R122). -/
def Obligations.SourceAndCueTimersRunOut : Prop :=
  ∀ (d : Nat) (s : State),
    let u := s.part.elapse (d - s.part.now)
    (s.part.tempo.sourceTimer = some d →
      let v := { u with tempo := { u.tempo with
        follow := .holdover, window := [], lastClock := none, acc := 0, sourceTimer := none } }
      Completes .sourceTimerExpiry s fun t => (Part.withFlag v .clockSourceLost).Offered t
        (Part.notices v .clockSource
          [word 2, word u.tempo.measured, word u.tempo.bar, word (u.tempo.beat * 256 + u.tempo.tick)] ++
          Part.flagNotices v .clockSourceLost)) ∧
    (∀ n : Nat, s.part.click.cue = some { number := n, timer := d } →
      let frames := ((List.finRange 12).filter fun p => u.isUp p && u.role p == .band).map fun p =>
        (p, ({ frame := .cue false n, entry := none } : QueueItem))
      u.RoomFor frames → exec .cueTimerExpiry s = .next (s.becomes <|
        { u.plusItems frames with click := { u.click with cue := none } }))

/-! ### Emission -/

/-- What a port in UP sends when its transmitter is free. A MODULE port whose queue does not begin with a CLOCK behind 8
releases sends its oldest ready release as a KEY UP, which leaves the table, and the burst count rises, at most to 8;
where that empties the table of a RESTART drain, the drain ends within the event (log 15). Otherwise the head of the
queue is sent, the burst count becomes 0, and a KEY DOWN's entry is no longer pending. A frame of n payload words takes
n + 2 words of 10 µs. With neither, nothing happens, and nothing in OFF, DOWN and REFUSED. Until a frame has left, its
words are on the line; between frames the line is silent in OFF and carries idle words in every other phase; a part that
is starting is silent (R45, R48, R164, R165, R172, R173, R178, R196). That an IDENT counts as sent when it is passed is
the model's (log 21), that in IDENT one waits for the transmitter, and that a frame leaves whole also into OFF (log 22),
and what the drain end's notices come in (log 16) and TEMPO then keeps (log 12). -/
def Obligations.EmissionFollowsR172 : Prop :=
  ∀ (p : Port) (s : State), s.part.NamesHold →
    let l := s.part.link p
    let u := s.part.elapse (l.freeAt - s.part.now)
    let quiet (es : List Entry) : Prop := s.part.console.drain = none ∨ es ≠ []
    let ready (e : Entry) : Bool := e.dest == p && e.isOwed && !e.pending
    let clockTurn : Prop := 8 ≤ l.burst ∧ (l.queue.head?).map QueueItem.frame = some .clock
    let releases : Prop := s.part.role p = .modulePort ∧ s.part.notes.entries.any ready = true ∧ ¬clockTurn
    (s.part.isUp p = true →
      (∀ (xs ys : List Entry) (e : Entry) (cause : Cause) (r : Nat), releases → s.part.notes.entries = xs ++ e :: ys →
        ready e = true → (∀ x ∈ xs, ready x = false) → e.state = .owed cause r →
        let v := (u.withEntries (xs ++ ys)).updLink p fun l =>
          { l with sending := some (.keyUp e.slot e.key r), freeAt := u.now + 40, burst := bump 8 l.burst }
        (quiet (xs ++ ys) → exec (.emissionChoice p) s = .next (s.becomes v)) ∧
        (¬quiet (xs ++ ys) → Completes (.emissionChoice p) s fun t => v.Drained t)) ∧
      (∀ (it : QueueItem) (rest : List QueueItem), ¬releases → l.queue = it :: rest → quiet s.part.notes.entries →
        exec (.emissionChoice p) s = .next (s.becomes <|
          (u.updLink p fun l => { l with
            sending := some it.frame, freeAt := u.now + (it.frame.payload.length + 2) * 10, queue := rest, burst := 0
            lastIdent := if it.frame.kind = 0 then some u.now else l.lastIdent }).setEntries <|
          u.notes.entries.map fun e => if it.entry = some e.name then { e with pending := false } else e)) ∧
      (¬releases → l.queue = [] → exec (.emissionChoice p) s = .next s)) ∧
    (l.phase = .ident → l.identWaiting = true → quiet s.part.notes.entries →
      exec (.emissionChoice p) s = .next (s.becomes <| u.updLink p fun l =>
        { l with sending := some (.ident (u.role p).expected), freeAt := u.now + 50, lastIdent := some u.now
                 identWaiting := false })) ∧
    (l.phase = .off ∨ l.phase = .down ∨ l.phase = .refused ∨ (l.phase = .ident ∧ l.identWaiting = false) →
      exec (.emissionChoice p) s = .next s) ∧
    (s.part.transmits p =
      if s.part.starting = true then .silent
      else if s.part.now < l.freeAt ∧ l.sending ≠ none then l.sending.elim .silent .frame
      else if l.phase = .off then .silent
      else .idle) ∧
    (Transmit.silent).words = [] ∧ (Transmit.idle).words = [1#20] ∧
    ∀ f : Frame, (Transmit.frame f).words.length = f.payload.length + 2 ∧
      ∀ w ∈ (Transmit.frame f).words, ∃ d : Word, readLine w = some (true, d) ∧ d ∈ f.words

/-! ### CONSOLE: the store and the restart -/

/-- COMMIT from the claim holder, with no commit and no load, begins COMPARING and is not answered yet. The comparison
ends with UNCHANGED where table memory equals the stored set, and goes on to WRITING otherwise. The write ends with
STORED, or with VERIFY FAILED, COMMIT FAILED raised and the stored set spoilt. Nothing else changes. From a port without
the claim COMMIT is NOT OWNER, and while a commit runs or a load is in progress it is BUSY, both without effect (R189,
R190). That an invalid stored set equals no image, and the commit goes on to WRITING, is the model's (log 24);
so is the reset cause in the FLAG RAISED notice (log 34). -/
def Obligations.CommitComparesAndWrites : Prop :=
  ∀ (p : Port) (tag : Byte) (s : State),
    let idle := { s.part with console := { s.part.console with commit := none } }
    let refused (r : Result) : Prop :=
      exec (.commit p tag) s = .next (s.becomes <| s.part.plus p (.reply 10 tag.toNat r []))
    (s.part.Asks p → s.part.console.owner ≠ some p → refused .notOwner) ∧
    (s.part.Asks p → s.part.console.owner = some p → s.part.console.commit ≠ none ∨ s.part.console.load ≠ none →
      refused .busy) ∧
    (s.part.Asks p → s.part.console.owner = some p → s.part.console.commit = none → s.part.console.load = none →
      exec (.commit p tag) s = .next (s.becomes <| { s.part with console := { s.part.console with
        commit := some { port := p, tag := tag, writing := false } } })) ∧
    (s.part.console.commit = some { port := p, tag := tag, writing := false } →
      (s.part.stored = some s.part.tables → Completes .commitCompareEnd s fun t =>
        Part.Offered idle t [toPort p (.reply 10 tag.toNat .unchanged [])]) ∧
      (s.part.stored ≠ some s.part.tables → exec .commitCompareEnd s = .next (s.becomes <|
        { s.part with console := { s.part.console with commit := some { port := p, tag := tag, writing := true } } }))) ∧
    (s.part.console.commit = some { port := p, tag := tag, writing := true } →
      Completes (.commitEnd true) s (fun t =>
        Part.Offered { idle with stored := some s.part.tables } t [toPort p (.reply 10 tag.toNat .stored [])]) ∧
      let spoilt := { idle with stored := none }
      Completes (.commitEnd false) s fun t => (Part.withFlag spoilt .commitFailed).Offered t
        (Part.flagNotices spoilt .commitFailed ++ [toPort p (.reply 10 tag.toNat .verifyFailed [])]))

/-- RESTART from the claim holder, with no commit and no drain, begins the drain: every SOUNDING and SUSTAINED entry
becomes RELEASE OWED (RESTART), every DEFERRED one is deleted, and the sustain states of the CONTROLLER ports are
cleared; the drain goes on while the table is not empty. Its end resets the play state: every presence record of a
MODULE port is ABSENT, no port has a substitute and none settles, the setlist stands at position 0 with that position's
song and its first scene, the cue mark at bar 1, beat 1, no change is pending, the transport is STOPPED at bar 1, beat 1,
tick 0 with that song's first tempo-map entry and follow mark, no cue sounds and no cue mute stands, CURRENT has number 0
with the zones and presets of that scene and PRIOR is EMPTY; the reset cause is RESTART, and the request is answered DONE
after the notices of those changes. Tables, stored set, claim, load, commit, masks, counters, held pedal mutes and the
black box are kept. From a port without the claim RESTART is NOT OWNER, and while a commit or a drain runs it is BUSY,
both without effect (R48, R68, R69, R76, R112, R113, R126, R160, R193). That a table that is empty already ends the drain
within the request is the model's (log 15), and so are the order of the blocks (log 16), what TEMPO keeps of a song (log
12, 27, 32), and fields sent as 0 (log 34). -/
def Obligations.RestartDrainsAndResets : Prop :=
  (∀ (p : Port) (tag : Byte) (s : State), s.part.Asks p → s.part.console.owner = some p →
    s.part.console.commit = none → s.part.console.drain = none →
    let es := (s.part.notes.entries.map fun e =>
      if e.rings = true then { e with state := .owed .restart 0 } else e).filter fun e => !e.isDeferred
    let t := s.part.withEntries es
    let v := { t with
      notes := ((List.finRange 12).filter fun q => s.part.role q == Role.controller).foldl NotesState.cleared t.notes
      console := { t.console with drain := some { port := p, tag := tag } } }
    (es ≠ [] → exec (.restart p tag) s = .next (s.becomes v)) ∧
    (es = [] → Completes (.restart p tag) s fun t => Part.Drained v t)) ∧
  (∀ (p : Port) (tag : Byte) (s : State), s.part.Asks p →
    let refused (r : Result) : Prop :=
      exec (.restart p tag) s = .next (s.becomes <| s.part.plus p (.reply 20 tag.toNat r []))
    (s.part.console.owner ≠ some p → refused .notOwner) ∧
    (s.part.console.owner = some p → s.part.console.commit ≠ none ∨ s.part.console.drain ≠ none → refused .busy)) ∧
  ∀ (d : Drain) (s : State), s.part.console.drain = some d → s.part.notes.entries = [] →
    Completes .drainEnd s fun t => s.part.Drained t

/-! ### CONSOLE: claim and loads -/

/-- CLAIM with no owner, or with FORCE from a priority console, makes the requester owner; the owner's own CLAIM is
DONE; any other is CLAIMED ELSEWHERE. RELEASE from the owner frees the claim, from another port it is NOT OWNER. On a
change of owner the old owner's load is abandoned, a CLAIM notice carries the old and the new owner, 15 for none, and the
request is answered DONE after it (R179, R181, R182, R195). -/
def Obligations.ClaimAndReleasePassTheClaim : Prop :=
  ∀ (p : Port) (tag : Byte) (w : Word) (args : List Word) (s : State), s.part.Asks p →
    let force := w.getLsbD 0
    let priority := s.part.port p = .console true
    let old := s.part.console.owner
    let change (c : Instr) (kind : Nat) (new : Option Port) : Prop := Completes c s fun t =>
      Part.Offered { s.part with console := { s.part.console with
          owner := new
          load := if s.part.console.load.map Load.owner = old then none else s.part.console.load } } t
        (s.part.notices .claim [word (portBits old + portBits new * 16)] ++ [toPort p (.reply kind tag.toNat .done [])])
    (old = some p →
      exec (.claim p tag (w :: args)) s = .next (s.becomes <| s.part.plus p (.reply 0 tag.toNat .done [])) ∧
      change (.release p tag) 1 none) ∧
    (old = none → change (.claim p tag (w :: args)) 0 (some p)) ∧
    (old ≠ some p →
      exec (.release p tag) s = .next (s.becomes <| s.part.plus p (.reply 1 tag.toNat .notOwner []))) ∧
    (∀ q : Port, old = some q → q ≠ p →
      (force = true ∧ priority → change (.claim p tag (w :: args)) 0 (some p)) ∧
      (¬(force = true ∧ priority) → exec (.claim p tag (w :: args)) s = .next (s.becomes <|
        s.part.plus p (.reply 0 tag.toNat .claimedElsewhere []))))

/-- LOAD BEGIN from the claim holder, with no commit, abandons the load in progress. A table code outside the six is BAD
TABLE; a first index, a count outside 1-64 or a last index out of range is BAD INDEX; otherwise the load begins with no
words gathered. A request without the claim is NOT OWNER, one during a commit BUSY, without effect (R183, R185). -/
def Obligations.LoadBeginOpensALoad : Prop :=
  ∀ (p : Port) (tag : Byte) (w2 w3 w4 : Word) (more : List Word) (s : State), s.part.Asks p →
    let c : Instr := .loadBegin p tag (w2 :: w3 :: w4 :: more)
    let table := w2.toNat % 8
    let first := w3.toNat % 1024
    let count := w4.toNat % 128
    let answer (load : Option Load) (r : Result) : Machine.Part :=
      ({ s.part with console := { s.part.console with load := load } }).plus p (.reply 2 tag.toNat r [])
    (s.part.console.owner ≠ some p → exec c s = .next (s.becomes <| answer s.part.console.load .notOwner)) ∧
    (s.part.console.owner = some p → s.part.console.commit ≠ none →
      exec c s = .next (s.becomes <| answer s.part.console.load .busy)) ∧
    (s.part.console.owner = some p → s.part.console.commit = none →
      (6 ≤ table → exec c s = .next (s.becomes <| answer none .badTable)) ∧
      ∀ id : TableId, id.code = table →
        (1 ≤ count ∧ count ≤ 64 ∧ first + count ≤ id.records → exec c s = .next (s.becomes <| answer (some
          { owner := p, table := id, next := first, left := count, words := [], written := 0 }) .done)) ∧
        (¬(1 ≤ count ∧ count ≤ 64 ∧ first + count ≤ id.records) →
          exec c s = .next (s.becomes <| answer none .badIndex)))

/-- LOAD DATA and LOAD RUN. Without the claim they are NOT OWNER, with a count out of range BAD VALUE, during a commit
BUSY, with no load NOT EXPECTED, without effect; the reply carries the records written and the words still expected. In
a load, words that complete no record join the gathered words. Words that complete a record have it checked: it is
written as clamped at its index, and the load goes on to the next one or ends, or the load is abandoned with the fault;
words beyond the last record are TOO LONG. A request whose words go on after a record that is not the last acts as one
that brings the words of that record, then one that brings the rest, with one reply. A port that leaves UP with the
write gets no reply. A PORT record is BAD VALUE for an unknown role and takes the fields of its role, clamped or stored;
a PEDAL record is BAD VALUE for an unknown action, and for an unknown boundary of a change action; their writes are
PortAndPedalRecordsActAsWritten. A CURVE is written with every point clamped to 0-1023; a SETLIST and a SCENE are
clamped and never refused; a SONG is BAD VALUE for an unknown start mode, denominator or cue action, then BAD ORDER for
a first bar that is not 1 or places that do not rise. Such a record changes table memory alone (R3, R4, R23, R59, R61,
R71, R72, R105, R107, R114, R127, R128, R137, R162, R171, R184, R185). The order of the refusals is the model's (log
18), the records written with no load in progress a free value (log 8), and that a field an action has none of is kept
as loaded its choice (log 33). -/
def Obligations.LoadWordsGatherAndWrite : Prop :=
  ∀ (run : Bool) (p : Port) (tag : Byte) (args : List Word) (s : State), s.part.Asks p →
    let c : Instr := if run then .loadRun p tag args else .loadData p tag args
    let kind := if run then 4 else 3
    let given := if run then loadRunArgs args else loadDataArgs args
    let told (u : Machine.Part) (r : Result) (written expected : Nat) : Host.Outcome State Fault Refusal :=
      .next (s.becomes <| u.plus p (.reply kind tag.toNat r [word written, word expected]))
    let refused (r : Result) : Prop :=
      (∀ l ∈ s.part.console.load, exec c s = told s.part r l.written (l.left * l.table.recordLength - l.words.length)) ∧
      (s.part.console.load = none → ∃ v : Nat, v < 128 ∧ exec c s = told { s.part with free := s.part.free + 1 } r v 0)
    (s.part.console.owner ≠ some p → refused .notOwner) ∧
    (s.part.console.owner = some p →
      (given = none → refused .badValue) ∧
      (given ≠ none → s.part.console.commit ≠ none → refused .busy) ∧
      (given ≠ none → s.part.console.commit = none → s.part.console.load = none → refused .notExpected) ∧
      (s.part.console.commit = none → ∀ ws ∈ given, ∀ l ∈ s.part.console.load, l.words.length < l.table.recordLength →
        let words := l.words ++ ws
        let size := l.table.recordLength
        let loading (load : Option Load) : Machine.Part :=
          { s.part with console := { s.part.console with load := load } }
        let on : Option Load := if l.left ≤ 1 then none
          else some { l with next := l.next + 1, left := l.left - 1, words := [], written := l.written + 1 }
        (words.length < size → exec c s =
          told (loading (some { l with words := words })) .done l.written (l.left * size - words.length)) ∧
        (size ≤ words.length → ∀ e : Result, recordOfWords l.table (words.take size) = .error e →
          exec c s = told (loading none) e l.written 0) ∧
        ∀ r : Record, recordOfWords l.table (words.take size) = .ok r →
          let w := (loading on).writeRecord l.next r
          let expected := w.console.load.elim 0 fun m => m.left * size - m.words.length
          (w.HasRoom p →
            (words.length = size → exec c s = told w .done (l.written + 1) expected) ∧
            (size < words.length → l.left ≤ 1 → exec c s = told w .tooLong (l.written + 1) 0)) ∧
          (w.isUp p = false → w.console.load = none → exec c s = .next (s.becomes w)) ∧
          (size < words.length → w.isUp p = true → w.console.load ≠ none → ∀ (run' : Bool) (args' : List Word),
            (if run' = true then loadRunArgs args' else loadDataArgs args') = some (words.drop size) →
            ∃ (u : Machine.Part) (e : Result) (n left : Nat),
              exec (if run' = true then .loadRun p tag args' else .loadData p tag args') (s.becomes w) =
                .next (s.becomes <| u.reply p (if run' = true then 4 else 3) tag.toNat e [word n, word left]) ∧
              exec c s = .next (s.becomes <| u.reply p kind tag.toNat e [word n, word left])))) ∧
    ∀ (ws : List Word) (u : Machine.Part) (k : Nat),
      let f (i d n : Nat) : Nat := (wordAt ws i).toNat / d % n
      let tables (ts : Tables) : Machine.Part := { u with tables := ts }
      (let role := f 0 1 8
       (6 ≤ role → recordOfWords .port ws = .error .badValue) ∧
       (role < 6 → ∃ x, recordOfWords .port ws = .ok (.port x) ∧
         (∀ q : Port, u.writeRecord q.val (.port x) = u.writePort q x) ∧
         (role = 0 → x = .off) ∧ (role = 1 → x = .controller) ∧
         (role = 2 → x = .modulePort
           { voiceBudget := max 1 (min 128 (f 1 1 256)), settleLimit := max 10 (min 2000 (f 2 1 65536))
             divisor := match f 3 1 8 with
               | 1 => .d1
               | 2 => .d2
               | 3 => .d4
               | 4 => .d8
               | _ => .off
             restrikeHeld := f 3 8 4 == 1
             returnPolicy := if f 3 32 4 = 1 then .nextScene else if f 3 32 4 = 2 then .nextSong else .immediate
             recoveryCount := max 1 (min 8 (f 3 256 16)), flapLimit := max 1 (min 8 (f 3 4096 16))
             presenceTimeout := max 50 (min 2000 (f 4 1 65536)) / 10 * 10
             backupPort := f 5 1 16, backupNone := f 5 16 2 == 1
             cooldown := min 10000 (f 6 1 65536), steadyPeriod := max 10 (min 600 (f 7 1 65536)) }) ∧
         (role = 3 → x = .band
           { subdivision := max 1 (min 4 (f 1 1 8)), warn := f 1 16 2 == 1, mute := f 1 32 2 == 1 }) ∧
         (role = 4 → x = .console (f 1 1 2 == 1)) ∧
         (role = 5 →
           let n := f 1 1 32
           x = .timing (if 16 ≤ n then 16 else if 8 ≤ n then 8 else if 4 ≤ n then 4 else if 2 ≤ n then 2 else 1)))) ∧
      (let action (i : Trigger) : Nat := f (3 * i.val + 1) 1 16
       let boundary (i : Trigger) : Nat := f (3 * i.val + 1) 16 8
       let bad : Prop := ∃ i : Trigger, 12 ≤ action i ∨ (action i < 6 ∧ 4 ≤ boundary i)
       (bad → recordOfWords .pedal ws = .error .badValue) ∧
       (¬bad → ∃ x, recordOfWords .pedal ws = .ok (.pedal x) ∧ u.writeRecord k (.pedal x) = u.writePedal x ∧
         (∀ i : Trigger, ((x.triggers[i]).mask.toNat = f (3 * i.val) 1 256 ∧
           (x.triggers[i]).pattern.toNat = f (3 * i.val) 256 256 ∧
           (x.triggers[i]).action.code = action i ∧ (x.triggers[i]).boundary = boundary i ∧
           (x.triggers[i]).priority = max 1 (f (3 * i.val + 1) 256 4) ∧
           (x.triggers[i]).parameter =
             (let loaded := f (3 * i.val + 1) 1024 64
              if action i = 5 then min 7 loaded else if action i = 10 then loaded % 16 else loaded) ∧
           (x.triggers[i]).bar = max 1 (min 9999 (f (3 * i.val + 2) 1 16384)))) ∧
         (∀ i : Fin 8, x.debounce[i] = max 1 (min 32 (f (24 + i.val / 2) (if i.val % 2 = 0 then 1 else 256) 64))) ∧
         x.tapCount =
           (let n := f 28 1 16
            if 8 ≤ n then 8 else if 4 ≤ n then 4 else if 2 ≤ n then 2 else 1))) ∧
      (∃ x, recordOfWords .curve ws = .ok (.curve x) ∧ (∀ i : Fin 9, x[i] = min 1023 (f i 1 65536)) ∧
        u.writeRecord k (.curve x) =
          tables { u.tables with curves := u.tables.curves.setIfInBounds k x }) ∧
      (∃ x, recordOfWords .setlist ws = .ok (.setlist x) ∧ x.count = min 64 (f 0 1 128) ∧
        (∀ i : Fin 64, (x.places[i.val]?).map Fin.val = some (f (i + 1) 1 64)) ∧
        u.writeRecord k (.setlist x) = tables { u.tables with setlist := x }) ∧
      (∃ x, recordOfWords .scene ws = .ok (.scene x) ∧ x.zoneCount = min 16 (f 0 1 32) ∧
        x.presetCount = min 16 (f 0 256 32) ∧
        (∀ i : Fin 16, i < x.zoneCount → ∃ z ∈ x.zones[i.val]?,
          let a := 1 + 10 * i.val
          z.strikeLow = max 1 (f (a + 2) 1 1024) ∧ z.strikeHigh = max 1 (f (a + 3) 1 1024) ∧
          z.transpose = max (-48) (min 48 ((f (a + 4) 1 128 : Int) - 128 * (f (a + 4) 128 2 : Int))) ∧
          z.curve = min 8 (f (a + 4) 4096 16) ∧ z.gain = min 127 (f (a + 5) 1 256) ∧
          z.offset = max (-512) (min 511 ((f (a + 6) 1 32768 : Int) - 32768 * (f (a + 6) 32768 2 : Int))) ∧
          z.listCount = min 4 (f (a + 5) 4096 8) ∧ (f (a + 5) 1024 4 = 3 → z.filterMode = .none_)) ∧
        u.writeRecord k (.scene x) =
          tables { u.tables with scenes := u.tables.scenes.setIfInBounds k x }) ∧
      (let entries := max 1 (min 16 (f 9 16 32))
       let cues := min 16 (f 9 1024 32)
       let bar (i : Nat) : Nat := max 1 (min 9999 (f (10 + 3 * i) 1 16384))
       let cueAt (j : Nat) : Nat := max 1 (min 9999 (f (58 + 3 * j) 1 16384)) * 16 + max 1 (f (59 + 3 * j) 1 16)
       let badValue : Prop := f 8 256 4 = 3 ∨
         (∃ i : Fin 16, i < entries ∧ f (12 + 3 * i) 256 32 ∉ [2, 4, 8, 16]) ∨
         ∃ j : Fin 16, j < cues ∧ 6 ≤ f (59 + 3 * j) 16 16
       let badOrder : Prop := bar 0 ≠ 1 ∨ (∃ i : Fin 16, i + 1 < entries ∧ bar (i + 1) ≤ bar i) ∨
         ∃ j : Fin 16, j + 1 < cues ∧ cueAt (j + 1) ≤ cueAt j
       (badValue → recordOfWords .song ws = .error .badValue) ∧
       (¬badValue → badOrder → recordOfWords .song ws = .error .badOrder) ∧
       (¬badValue → ¬badOrder → ∃ x, recordOfWords .song ws = .ok (.song x) ∧
         x.sceneCount = max 1 (min 8 (f 8 1 16)) ∧ x.firstScene = min (x.sceneCount - 1) (f 8 16 8) ∧
         x.startMode.code = f 8 256 4 ∧ x.follow = (f 8 1024 2 == 1) ∧ x.countInBars = min 4 (f 8 4096 8) ∧
         x.cuePriority = max 1 (f 9 1 4) ∧ x.tempoMap.length = entries ∧ x.cueList.length = cues ∧
         (∀ i : Fin 16, i < entries → ∃ e ∈ x.tempoMap[i.val]?,
           e.bar = bar i ∧ e.tempo = max 3000 (min 30000 (f (11 + 3 * i) 1 65536)) ∧
           e.numerator = max 1 (f (12 + 3 * i) 1 16) ∧ e.denominator = f (12 + 3 * i) 256 32) ∧
         (∀ j : Fin 16, j < cues → ∃ e ∈ x.cueList[j.val]?,
           let action := f (59 + 3 * j) 16 16
           e.bar * 16 + e.beat = cueAt j ∧ e.beat = max 1 (f (59 + 3 * j) 1 16) ∧ e.action = action ∧
           e.argument = (if action = 0 then min 7 (f (59 + 3 * j) 256 256) else f (59 + 3 * j) 256 256) ∧
           e.width = (if action = 5 then max 10 (min 5000 (f (60 + 3 * j) 1 65536)) else f (60 + 3 * j) 1 65536)) ∧
         u.writeRecord k (.song x) =
           tables { u.tables with songs := u.tables.songs.setIfInBounds k x }))

/-- Table memory changes only by LOAD DATA and LOAD RUN from the claim holder, by the store load and at device reset;
the stored set changes only at the end of a commit and at device reset (R184, R190). -/
def Obligations.TablesChangeOnlyByLoads : Prop :=
  ∀ (c : Instr) (s t : State), exec c s = .next t →
    (t.part.tables ≠ s.part.tables →
      (∃ p tag args, (c = .loadData p tag args ∨ c = .loadRun p tag args) ∧ s.part.console.owner = some p ∧
        s.part.isUp p = true ∧ s.part.role p = .console ∧ s.part.console.commit = none) ∨
      c = .storeLoad ∨ ∃ b, c = .deviceReset b) ∧
    (t.part.stored ≠ s.part.stored →
      (∃ b, c = .commitEnd b) ∨ ∃ b, c = .deviceReset b)

/-! ### CONSOLE: reading, playing, clearing -/

/-- The reading requests add one REPLY to the queue of their port and change nothing else: READ with the record's words
from the offset, at most 12, or BAD TABLE or BAD INDEX; READ NOTES with at most three entries; READ BLACK BOX; STATUS;
PORT STATUS, BAD INDEX for 12-15; and an unknown kind is BAD VALUE. The words are those of 12.3 to 12.6, written out in
the layouts of Sys2Proof/Safety.lean (R46, R95, R156, R179, R183, R186, R187, R188). A full queue refuses the REPLY:
QUEUE OVERFLOW is raised, and its notice goes to the other consoles (R171, R194, R195). Unused bits sent as 0 (log 20),
the low 32 bits of the black box time (log 30), the first tempo of a song in WAITING (log 12), and the fields that a
notice or a reply does not fill, with the reset cause in FLAG RAISED (log 34), are the model's. -/
def Obligations.ReadingRequestsAnswerOnly : Prop :=
  (∀ (p : Port) (tag kind : Byte) (w2 w3 w4 : Word) (more : List Word) (s : State), s.part.role p = .console →
    s.part.isUp p = true →
    let answer (k : Nat) (r : Result) (data : List Word) : Host.Outcome State Fault Refusal :=
      .next (s.becomes <| s.part.plus p (.reply k tag.toNat r data))
    let index := w3.toNat % 1024
    let offset := w4.toNat % 256
    let start := w2.toNat % 256
    let es := s.part.notes.entries
    (¬s.part.HasRoom p → ∀ c ∈ [Instr.status p tag, .readBlackBox p tag, .readNotes p tag (w2 :: more),
        .read p tag (w2 :: w3 :: w4 :: more), .portStatus p tag (w2 :: more), .unknownRequest p kind tag],
      Completes c s fun t => (s.part.withFlag .queueOverflow).Offered t
        ((s.part.flagNotices .queueOverflow).filter fun x => x.1 != p)) ∧
    (s.part.HasRoom p →
      (6 ≤ w2.toNat % 8 → exec (.read p tag (w2 :: w3 :: w4 :: more)) s = answer 5 .badTable []) ∧
      (∀ id : TableId, id.code = w2.toNat % 8 → exec (.read p tag (w2 :: w3 :: w4 :: more)) s =
        match s.part.tables.recordAt id index with
        | none => answer 5 .badIndex []
        | some r => answer 5 .done ([word (id.code * 4096 + index), word (id.recordLength * 256 + offset)]
            ++ (r.layout.drop offset).take 12)) ∧
      exec (.readNotes p tag (w2 :: more)) s =
        answer 6 .done ([word es.length, word start] ++ ((es.drop start).take 3).flatMap Entry.layout) ∧
      exec (.readBlackBox p tag) s = answer 7 .done (boxLayout s.part.watch.blackBox) ∧
      exec (.status p tag) s = answer 8 .done s.part.statusLayout ∧
      (∀ q : Port, w2.toNat % 16 = q.val →
        exec (.portStatus p tag (w2 :: more)) s = answer 9 .done (s.part.portLayout q)) ∧
      (12 ≤ w2.toNat % 16 → exec (.portStatus p tag (w2 :: more)) s = answer 9 .badIndex []) ∧
      exec (.unknownRequest p kind tag) s = answer kind.toNat .badValue [])) ∧
  [TableId.port, .curve, .pedal, .setlist, .song, .scene].map (fun id => (id.code, id.recordLength)) =
    [(0, 8), (1, 9), (2, 29), (3, 65), (4, 106), (5, 209)] ∧
  [Result.done, .takenIn, .noChange, .busy, .notOwner, .claimedElsewhere, .badTable, .badIndex, .badOrder, .badValue,
    .lowerPriority, .notExpected, .tooLong, .stored, .unchanged, .verifyFailed].map Result.code = List.range 16 ∧
  [NoticeKind.sceneEntered, .changeSuperseded, .changeRefused, .transport, .module_, .clockSource, .flagRaised,
    .claim].map (fun k => k.code.val) = List.range 8 ∧
  [Flag.storeInvalid, .commitFailed, .noteTableFull, .queueOverflow, .forcedRelease, .steal, .clockSourceLost].map
    Flag.number = List.range 7

/-- Every target resolves by the table of R78 from the pending target or the active place, fails as R79 gives, and is
the place already at as R80 gives. SELECT: an unresolvable target is BAD INDEX, the place already at with nothing
pending NO CHANGE, a lower priority than the pending request's LOWER PRIORITY, each without effect. With a boundary that
is not met at once and the transport not STOPPED the request is stored with its resolved target and answered TAKEN IN:
in an empty slot, or in place of a pending request, with a CHANGE SUPERSEDED notice that carries the replaced request
and both sources. While STOPPED, or with boundary IMMEDIATE, its target is taken at once, after that notice where it
replaces a request, and answered DONE. A change trigger that fires alone asks for its action's target with its boundary
and priority and acts so too; where SELECT is refused it makes a CHANGE REFUSED notice, of the request and the reason,
and NO CHANGE is silent (R78 to R83, R128, R131, R132). Asked of what is taken: a song that is entered has no cue at its
bar 1, beat 1. A bar or argument that a request has none of is sent as 0 (log 34), and with song none NEXT SONG and PREV
SONG name position 0 whatever is pending (log 28). What TEMPO keeps of a song (log 12), the work of a song entry's own
beat after the whole entry (log 9), the cue mark set before the cue (log 10), the places of TRANSPORT notices (log 17),
the FORCED RELEASE bit (log 7), fields sent as 0 (log 34) and a scene entry of the active song under an emptied setlist
(log 35) are the model's. -/
def Obligations.SelectIsArbitrated : Prop :=
  (∀ (g : Target) (x : Resolved) (u : Machine.Part),
    let last := u.tables.setlist.songs.length - 1
    let place := u.setlist.place
    let pending := u.setlist.pending.map PendingChange.target
    let song : Option (Nat × Option SceneNo) := pending.bind fun r => match r with
      | .song i sc => some (i, sc)
      | .scene _ | .reload => none
    let base : Nat := song.elim u.setlist.position Prod.fst
    let songTo (i : Nat) : Option Resolved :=
      if u.tables.setlist.songs = [] then none
      else if place = none then some (.song 0 none)
      else some (.song (min i last) none)
    let sceneTo (move : Nat → Nat) : Option Resolved := match pending with
      | some (.song i sc) => (u.songOf i).map fun n =>
          .song i (some (u.sceneOf n (move (sc.getD (u.opening n)).val)))
      | some (.scene k) => place.map fun pl => .scene (u.sceneOf pl.song (move k.val))
      | some .reload | none => place.map fun pl => .scene (u.sceneOf pl.song (move pl.scene.val))
    u.resolveTarget g = (match g with
      | .songAt i => if u.tables.setlist.songs = [] then none else some (.song (min i last) none)
      | .nextSong => songTo (base + 1)
      | .prevSong => songTo (base - 1)
      | .sceneAt k => place.map fun pl => .scene (u.sceneOf pl.song k)
      | .nextScene => sceneTo fun k => k + 1
      | .prevScene => sceneTo fun k => k - 1
      | .reload => some .reload) ∧
    (u.alreadyAt x = true ↔ ∃ pl ∈ place, match x with
      | .song i sc => i = u.setlist.position ∧ (sc.or ((u.songOf i).map u.opening)) = some pl.scene
      | .scene k => k = pl.scene
      | .reload => False)) ∧
  ∀ (p : Port) (tag : Byte) (args : List Word) (a : SelectArgs) (levels : BitVec 8) (i : Trigger) (s : State),
    let storing (u : Machine.Part) (r : PendingChange) : Machine.Part :=
      { u with setlist := { u.setlist with pending := some r } }
    (s.part.Asks p → selectArgs args = some a →
      let reply (r : Result) : Frame := .reply 11 tag.toNat r []
      let answer (t : Machine.Part) (r : Result) : Host.Outcome State Fault Refusal :=
        .next (s.becomes <| t.plus p (reply r))
      let waits : Prop := s.part.tempo.transport ≠ .stopped ∧ a.boundary ≠ .immediate
      (s.part.resolveTarget a.target = none → exec (.select p tag args) s = answer s.part .badIndex) ∧
      ∀ x ∈ s.part.resolveTarget a.target,
        let new : PendingChange := { source := .console p, target := x, boundary := a.boundary, priority := a.priority }
        let taking (before : List (Port × QueueItem)) : Prop :=
          Completes (.select p tag args) s fun t => s.part.Took t x before [toPort p (reply .done)]
        (∀ old ∈ s.part.setlist.pending,
          let told := s.part.supersededNotices old (.console p)
          (a.priority < old.priority → exec (.select p tag args) s = answer s.part .lowerPriority) ∧
          (old.priority ≤ a.priority →
            (waits → Completes (.select p tag args) s fun t =>
              (storing s.part new).Offered t (told ++ [toPort p (reply .takenIn)])) ∧
            (¬waits → taking told))) ∧
        (s.part.setlist.pending = none → s.part.alreadyAt x = true →
          exec (.select p tag args) s = answer s.part .noChange) ∧
        (s.part.setlist.pending = none → s.part.alreadyAt x = false →
          (waits → exec (.select p tag args) s = answer (storing s.part new) .takenIn) ∧ (¬waits → taking []))) ∧
    (s.part.MovesAlone levels i true false →
      let r := s.part.trigger i
      let u := (s.part.sampled levels).setArmed i false
      let target : Option Target := match r.action with
        | .nextSong => some .nextSong
        | .prevSong => some .prevSong
        | .nextScene => some .nextScene
        | .prevScene => some .prevScene
        | .songAt => some (.songAt r.parameter)
        | .sceneAt => some (.sceneAt r.parameter)
        | .startStop | .tap | .cueStop | .panic | .sustain | .clickMute => none
      ∀ g ∈ target, ∀ b ∈ boundaryOf r.boundary r.bar,
        let refused (why : Nat) : Prop := Completes (.pedalSample levels) s fun t =>
          u.Offered t (u.refusedNotices (.pedal i) g b r.priority why)
        let waits : Prop := u.tempo.transport ≠ .stopped ∧ b ≠ .immediate
        (u.resolveTarget g = none → refused 7) ∧
        ∀ x ∈ u.resolveTarget g,
          let new : PendingChange := { source := .pedal i, target := x, boundary := b, priority := r.priority }
          let taking (before : List (Port × QueueItem)) : Prop :=
            Completes (.pedalSample levels) s fun t => u.Took t x before []
          (∀ old ∈ u.setlist.pending,
            let told := u.supersededNotices old (.pedal i)
            (r.priority < old.priority → refused 10) ∧
            (old.priority ≤ r.priority →
              (waits → Completes (.pedalSample levels) s fun t => (storing u new).Offered t told) ∧
              (¬waits → taking told))) ∧
          (u.setlist.pending = none → u.alreadyAt x = true → exec (.pedalSample levels) s = .next (s.becomes u)) ∧
          (u.setlist.pending = none → u.alreadyAt x = false →
            (waits → exec (.pedalSample levels) s = .next (s.becomes (storing u new))) ∧ (¬waits → taking [])))

/-- SELECT of a scene of the active song while STOPPED enters it at once. PRIOR's ringing entries become RELEASE OWED
(FORCED), with FORCED RELEASE raised where there is one; every DEFERRED entry of the table is deleted; what is left
takes the outgoing CURRENT's number. The outgoing CURRENT becomes PRIOR where it owns an entry, and the new CURRENT has
the next number and copies of the stored record; the laws of generations are asked for. The WAITING modules with policy
NEXT SCENE return. Each preset of the new CURRENT is sent to the module it leads to, whose settle it begins or restarts;
SCENE ENTERED follows with the place, the number and PRIOR's number, and DONE after it (R41, R52 to R57, R62, R81, R83,
R88, R151, R152). Any target that SELECT takes at once, that a beat start in RUNNING or a count beat takes out of the
slot, or that a due SCENE or NEXT SONG cue asks for, acts so, and a song target is a song entry: modules with policy
NEXT SONG return too, its time is reset, its transport is set by its start mode, the cue stops and the cue mute ends;
song none is STOPPED (R82, R84 to R87, R90, R91, R103). Asked: a song that is entered has no cue at its bar 1, beat 1.
What TEMPO keeps of a song (log 12), the work of a song entry's own beat after the whole entry (log 9), the cue mark set
before the cue (log 10), the places of TRANSPORT notices (log 17), the FORCED RELEASE bit (log 7), fields sent as 0
(log 34) and a scene entry of the active song under an emptied setlist (log 35) are the model's. -/
def Obligations.SceneEntryShiftsTheGenerations : Prop :=
  (∀ (p : Port) (tag : Byte) (args : List Word) (a : SelectArgs) (pl : Place) (sc : SceneNo) (g : Generation) (s : State),
    s.part.Asks p → selectArgs args = some a → s.part.setlist.pending = none → s.part.tempo.transport = .stopped →
    s.part.setlist.place = some pl → s.part.resolveTarget a.target = some (.scene sc) → sc ≠ pl.scene →
    s.part.clampScene pl.song sc.val = sc → s.part.scene.current = some g → s.part.GenerationsHold →
    let forced := s.part.notes.entries.any fun e => e.isOf s.part.scene.prior && e.rings
    let es := ((s.part.notes.entries.filter fun e => !e.isDeferred).map fun e =>
      if e.isOf s.part.scene.prior = true ∧ e.rings = true then { e with state := .owed .forced 0 } else e).map fun e =>
        { e with gen := g.number }
    Completes (.select p tag args) s fun t =>
      t = { s.part with
        links := t.links, notes := { s.part.notes with entries := es }
        setlist := { s.part.setlist with place := some { pl with scene := sc } }
        scene := { s.part.scene with
          prior := if es = [] then none else some g
          current := some { number := (g.number + 1) % 256, position := s.part.setlist.position
                            place := some { pl with scene := sc }
                            zones := (s.part.sceneRecord { pl with scene := sc }).zones
                            presets := (s.part.sceneRecord { pl with scene := sc }).presets }
          settle := t.scene.settle }
        watch := { s.part.watch with modules := t.watch.modules, map := t.watch.map }
        console := { s.part.console with flags := t.console.flags } } ∧
      (forced = true → t.console.flags.forcedRelease = true) ∧
      (∀ q : Port, s.part.role q = .modulePort → (s.part.module q).state = .waiting →
        (s.part.moduleFields q).returnPolicy = .nextScene → t.isActive q = true ∧ t.substitute q = none) ∧
      (∀ q : Port, t.scene.settle[q] =
        if t.currentPresets.any (fun e => t.leadsTo e.port == some q) = true then some (s.part.settleNow q)
        else s.part.scene.settle[q]) ∧
      s.part.Took t (.scene sc) [] [toPort p (.reply 11 tag.toNat .done [])]) ∧
  (∀ (p : Port) (tag : Byte) (args : List Word) (a : SelectArgs) (x : Resolved) (s : State), s.part.Asks p →
    selectArgs args = some a → s.part.resolveTarget a.target = some x → s.part.setlist.pending = none →
    s.part.alreadyAt x = false → s.part.tempo.transport = .stopped ∨ a.boundary = .immediate →
    Completes (.select p tag args) s fun t => s.part.Took t x [] [toPort p (.reply 11 tag.toNat .done [])]) ∧
  ∀ s : State, s.part.accRuns = true → 47 ≤ s.part.tempo.tick ∨ s.part.tempo.transport ≠ .running →
    Completes .accumulatorTick s fun t => s.part.atTick.Ticks t []

/-- The console's transport requests. START and STOP are NOT EXPECTED in a FOLLOW song and NO CHANGE where the transport
does not change. Otherwise both are answered DONE. START from STOPPED gives COUNTING IN from bar 1, beat 1, tick 0 where
the song has count-in bars, with the first count beat's clicks, and RUNNING from the kept position elsewhere, with the
tick there, and at a beat start what SETLIST has to do; STOP gives STOPPED at the kept position, and a pending request
is taken there (R82, R83, R84, R89, R97, R98, R100, R101, R122, R124). A START/STOP trigger that fires alone does the
same without a reply, and nothing in a FOLLOW song (R97, R131). Asked: a song that is entered has no cue at its bar 1,
beat 1. The count-in bars are those the song entry read (log 12). What TEMPO keeps of a song (log 12), the work of a
song entry's own beat after the whole entry (log 9), the cue mark set before the cue (log 10), the places of TRANSPORT
notices (log 17), the FORCED RELEASE bit (log 7), fields sent as 0 (log 34) and a scene entry of the active song under
an emptied setlist (log 35) are the model's. -/
def Obligations.TransportRequestsStartAndStop : Prop :=
  ∀ (p : Port) (tag : Byte) (levels : BitVec 8) (i : Trigger) (s : State),
    let starts (c : Instr) (u : Machine.Part) (more : List (Port × QueueItem)) : Prop :=
      u.tempo.transport = .stopped → Completes c s fun t => u.Starts t [] more
    let stops (c : Instr) (u : Machine.Part) (more : List (Port × QueueItem)) : Prop :=
      u.tempo.transport ≠ .stopped → Completes c s fun t => u.Stops u.halted t [] more
    (s.part.Asks p →
      let x := s.part.tempo
      let reply (r : Result) : Frame := .reply 12 tag.toNat r []
      let answer (r : Result) : Host.Outcome State Fault Refusal := .next (s.becomes <| s.part.plus p (reply r))
      (x.followSong = true → exec (.transportStart p tag) s = answer .notExpected ∧
        exec (.transportStop p tag) s = answer .notExpected) ∧
      (x.followSong = false → x.transport ≠ .stopped → exec (.transportStart p tag) s = answer .noChange) ∧
      (x.followSong = false → x.transport = .stopped → exec (.transportStop p tag) s = answer .noChange) ∧
      (x.followSong = false → starts (.transportStart p tag) s.part [toPort p (reply .done)] ∧
        stops (.transportStop p tag) s.part [toPort p (reply .done)])) ∧
    ((s.part.trigger i).action = .startStop → s.part.MovesAlone levels i true false →
      let u := (s.part.sampled levels).setArmed i false
      (u.tempo.followSong = true → exec (.pedalSample levels) s = .next (s.becomes u)) ∧
      (u.tempo.followSong = false → starts (.pedalSample levels) u [] ∧ stops (.pedalSample levels) u []))

/-- R99: TRANSPORT TO START in STOPPED sets the position to bar 1, beat 1, tick 0, looks up the tempo-map entry of bar 1
and moves the cue mark, and keeps the override and the taps; otherwise it is BUSY and changes nothing. In every song
(R96, R99). That the tempo of the song's first entry is looked up with it is the model's (log 12). -/
def Obligations.TransportToStartFollowsR99 : Prop :=
  ∀ (p : Port) (tag : Byte) (s : State), s.part.Asks p →
    let x := s.part.tempo
    let r := s.part.activeSong
    let found := r.bind fun r => entryAt r.tempoMap 1
    (x.transport = .stopped → exec (.transportToStart p tag) s = .next (s.becomes <|
      ({ s.part with
        tempo := { x with
          bar := 1, beat := 1, tick := 0
          mapTempo := found.elim x.mapTempo TempoEntry.tempo
          numerator := found.elim x.numerator TempoEntry.numerator
          denominator := found.elim x.denominator TempoEntry.denominator
          firstTempo := found.elim x.firstTempo fun e =>
            (r.bind fun r => r.tempoMap.head?).elim e.tempo TempoEntry.tempo }
        setlist := { s.part.setlist with markBar := 1, markBeat := 1, markPassed := false } }).plus p
        (.reply 12 tag.toNat .done []))) ∧
    (x.transport ≠ .stopped → exec (.transportToStart p tag) s = .next (s.becomes <|
      s.part.plus p (.reply 12 tag.toNat .busy [])))

/-- TEMPO SET makes its tempo, clamped to 3000-30000, the override, and TEMPO CLEAR removes it; both empty the tap
series. In a FOLLOW song both are NOT EXPECTED and change nothing (R106). -/
def Obligations.TempoRequestsSetTheOverride : Prop :=
  ∀ (p : Port) (tag : Byte) (w : Word) (more : List Word) (s : State), s.part.Asks p →
    let set (v : Option Nat) : Machine.Part :=
      { s.part with tempo := { s.part.tempo with override := v, lastTap := none, taps := [] } }
    (s.part.tempo.followSong = false →
      exec (.tempoSet p tag (w :: more)) s = .next (s.becomes <|
        (set (some (max 3000 (min 30000 w.toNat)))).plus p (.reply 13 tag.toNat .done [])) ∧
      exec (.tempoClear p tag) s = .next (s.becomes <| (set none).plus p (.reply 14 tag.toNat .done []))) ∧
    (s.part.tempo.followSong = true →
      exec (.tempoSet p tag (w :: more)) s = .next (s.becomes <|
        s.part.plus p (.reply 13 tag.toNat .notExpected [])) ∧
      exec (.tempoClear p tag) s = .next (s.becomes <| s.part.plus p (.reply 14 tag.toNat .notExpected [])))

/-- TAKE OUT, RETURN and CLEAR MODULE. A port that is no MODULE port is BAD INDEX. TAKE OUT departs an ACTIVE module,
adds COMMANDED in OUT, sends RECOVERING, COOLDOWN and WAITING back to OUT, and is NOT EXPECTED in ABSENT and NO CHANGE
in BARRED; the commanded timer is started at the duration, at most 600,000 ms, or stopped for 0. RETURN removes
COMMANDED. CLEAR MODULE sets the loss count to 0 and makes BARRED OUT. Each is answered DONE, after the MODULE notice of
a change of state (R147, R148, R153, R158, R179). What a move or a refused copy offers
to the peak (log 13), the names of copies (log 14), and the reset cause in a FLAG RAISED notice (log 34) are the
model's. -/
def Obligations.ModuleRequestsActOnTheModule : Prop :=
  ∀ (p q : Port) (tag : Byte) (w2 w3 w4 : Word) (more : List Word) (target : BitVec 4) (s : State), s.part.Asks p →
    w2.toNat % 16 = q.val → target.toNat = q.val →
    let takeOut : Instr := .takeOut p tag (w2 :: w3 :: w4 :: more)
    let giveBack : Instr := .returnModule p tag (w2 :: more)
    let clear : Instr := .clearModule p tag target
    let m := s.part.module q
    let ms := min 600000 (w3.toNat * 65536 + w4.toNat)
    let timer := if ms = 0 then none else some (s.part.now + ms * 1000)
    let answer (k : Nat) (r : Result) : Host.Outcome State Fault Refusal :=
      .next (s.becomes <| s.part.plus p (.reply k tag.toNat r []))
    let becomes (c : Instr) (k : Nat) (n : Presence) : Prop := Completes c s fun t =>
      Part.Offered (s.part.updModule q fun _ => n) t
        ((if n.state = m.state then [] else s.part.notices .module_
          [word (q.val + presenceBits m.state * 16), n.layout, word (portBits (s.part.substitute q))]) ++
          [toPort p (.reply k tag.toNat .done [])])
    (s.part.role q ≠ .modulePort → exec takeOut s = answer 15 .badIndex ∧ exec giveBack s = answer 16 .badIndex ∧
      exec clear s = answer 17 .badIndex) ∧
    (s.part.role q = .modulePort →
      (m.state = .absent → exec takeOut s = answer 15 .notExpected) ∧
      (m.state = .barred → exec takeOut s = answer 15 .noChange) ∧
      (m.state = .active → s.part.NamesHold → s.part.isUp q = true → Completes takeOut s fun t =>
        s.part.Departed t q .commanded ∧ (t.module q).commandedTimer = timer ∧
        ((t.link p).queue.length < 32 →
          (t.link p).queue.getLast? = some { frame := .reply 15 tag.toNat .done [], entry := none })) ∧
      (m.state = .out →
        becomes takeOut 15 { m with reasons := m.reasons.add .commanded, commandedTimer := timer }) ∧
      (m.state = .recovering ∨ m.state = .cooldown ∨ m.state = .waiting →
        becomes takeOut 15 { m with state := .out, reasons := .only .commanded, lastReason := some .commanded
                                    cooldownTimer := none, progress := 0, commandedTimer := timer }) ∧
      (m.reasons.commanded = false → exec giveBack s = answer 16 .noChange) ∧
      (m.reasons.commanded = true → m.state = .out →
        let left := { m.reasons with commanded := false }
        becomes giveBack 16 (if left = .empty
          then { m with state := .recovering, reasons := left, progress := 0, commandedTimer := none }
          else { m with reasons := left, commandedTimer := none })) ∧
      (m.state ≠ .barred → becomes clear 17 { m with loss := 0 }) ∧
      (m.state = .barred →
        let r : Reason := if s.part.isUp q = true then .presenceTimeout else .linkDown
        becomes clear 17 { m with loss := 0, state := .out, reasons := .only r, lastReason := some r
                                  presenceTimer := none }))

/-- The clearing requests and NOTICE MASK change what they name and nothing else, and are DONE: CLEAR FLAGS all flags;
CLEAR PEAKS the peaks and worst gaps of every MODULE port; CLEAR BLACK BOX the black box; CLEAR COUNTS the counters of a
port, BAD INDEX for 12-15; NOTICE MASK the requester's mask, answered with it (R153, R156, R157, R180, R194, R195). -/
def Obligations.ClearingRequestsClear : Prop :=
  ∀ (p : Port) (tag : Byte) (w : Word) (more : List Word) (target : BitVec 4) (s : State), s.part.Asks p →
    let answer (t : Machine.Part) (k : Nat) (r : Result) (data : List Word) : Host.Outcome State Fault Refusal :=
      .next (s.becomes <| t.plus p (.reply k tag.toNat r data))
    let cleared : PerPort Presence := Vector.ofFn fun q =>
      if s.part.role q = .modulePort then { s.part.module q with peak := s.part.kept q, worstGap := 0 }
      else s.part.module q
    exec (.clearFlags p tag) s = answer { s.part with console := { s.part.console with
      flags := ⟨false, false, false, false, false, false, false⟩ } } 17 .done [] ∧
    exec (.clearPeaks p tag) s =
      answer { s.part with watch := { s.part.watch with modules := cleared } } 17 .done [] ∧
    exec (.clearBlackBox p tag) s = answer { s.part with watch := { s.part.watch with blackBox := none } } 17 .done [] ∧
    (12 ≤ target.toNat → exec (.clearCounts p tag target) s = answer s.part 17 .badIndex []) ∧
    (∀ q : Port, target.toNat = q.val →
      let u := s.part.updLink q fun l => { l with frameFaults := 0, losses := 0, unexpected := 0 }
      let v := { u with notes := { u.notes with deferOverflow := upd u.notes.deferOverflow q fun _ => 0 }
                        scene := { u.scene with expiries := upd u.scene.expiries q fun _ => 0 } }
      exec (.clearCounts p tag target) s =
        answer (if s.part.role q = .modulePort then v else u) 17 .done []) ∧
    exec (.noticeMask p tag (w :: more)) s = answer { s.part with console := { s.part.console with
      masks := upd s.part.console.masks p fun _ => w.setWidth 8 } } 18 .done [(w.setWidth 8).setWidth 16]

/-- PANIC: every SOUNDING and SUSTAINED entry becomes RELEASE OWED (PANIC), every DEFERRED one is deleted, RELEASE OWED
ones stay; the sustain states of the CONTROLLER ports are cleared, and a sounding cue is stopped. No flag is raised by
it where the queues have room, and nothing else changes. A PANIC trigger that fires alone does the same without a reply,
and a CUE STOP trigger stops the cue (R36, R37, R122, R131, R180). -/
def Obligations.PanicReleasesEverything : Prop :=
  ∀ (p : Port) (tag : Byte) (levels : BitVec 8) (i : Trigger) (s : State),
    let panicked (u : Machine.Part) : Machine.Part :=
      let es := (u.notes.entries.map fun e =>
        if e.rings = true then { e with state := .owed .panic 0 } else e).filter fun e => !e.isDeferred
      let t := (u.withEntries es).plusItems u.cueStops
      { t with
        notes := ((List.finRange 12).filter fun q => u.role q == Role.controller).foldl NotesState.cleared t.notes
        click := { t.click with cue := none } }
    (s.part.Asks p → s.part.RoomFor s.part.cueStops →
      exec (.panic p tag) s = .next (s.becomes <| (panicked s.part).plus p (.reply 19 tag.toNat .done []))) ∧
    (s.part.MovesAlone levels i true false →
      let u := (s.part.sampled levels).setArmed i false
      u.RoomFor u.cueStops →
        ((s.part.trigger i).action = .panic → exec (.pedalSample levels) s = .next (s.becomes (panicked u))) ∧
        ((s.part.trigger i).action = .cueStop → exec (.pedalSample levels) s = .next (s.becomes
          { u.plusItems u.cueStops with click := { u.click with cue := none } })))

/-! ### Laws that every step keeps -/

/-- No output queue holds more than 32 frames or any KEY UP frame: every step keeps that law (R171). -/
def Obligations.QueuesAreKept : Prop :=
  ∀ s t : State, s.part.QueuesHold → step s = .next t → t.part.QueuesHold

/-- The effective tempo lies within 3000-30000 centi-BPM and the position within its ranges, with what that rests on:
every step keeps it (R93, R95). -/
def Obligations.TimesAreKept : Prop :=
  ∀ s t : State, s.part.TimesHold → step s = .next t → t.part.TimesHold ∧ TempoOk t.part.effectiveTempo

/-- A module's loss count never exceeds its flap limit, and equals it only while the module is BARRED: every step keeps
that law (R141). -/
def Obligations.LossesAreKept : Prop :=
  ∀ s t : State, s.part.LossesHold → step s = .next t → t.part.LossesHold

/-- A module's substitute is its configured backup, is ACTIVE and has no substitute of its own, and a module in SETTLING
is ACTIVE: every step keeps these laws (R62, R143). -/
def Obligations.SubstitutesAndSettlesAreKept : Prop :=
  ∀ s t : State, s.part.WatchHolds → step s = .next t → t.part.WatchHolds

/-- The laws of the note table: at most 256 entries; for any destination, slot and sent key at most one SOUNDING or
SUSTAINED and one DEFERRED; every entry in CURRENT or PRIOR, PRIOR's never DEFERRED; the budgets and the 16 DEFERRED of
a module. Every step keeps them (R22, R23, R50). -/
def Obligations.NoteTableLawsAreKept : Prop :=
  ∀ s t : State, s.part.NotesHold → step s = .next t → t.part.NotesHold

/-- An entry in SOUNDING, SUSTAINED or RELEASE OWED leaves the table only when its KEY UP has been passed to its
destination's link, when that port is no longer UP, or at device reset (R25). -/
def Obligations.EntriesLeaveOnlyByTheirKeyUp : Prop :=
  ∀ (c : Instr) (s t : State), s.part.NamesHold → exec c s = .next t →
    ∀ e ∈ s.part.notes.entries, e.isDeferred = false →
      (∃ f ∈ t.part.notes.entries, f.name = e.name ∧ f.isDeferred = false) ∨
      (c = .emissionChoice e.dest ∧ s.part.isUp e.dest = true ∧ (t.part.link e.dest).sending = some e.upFrame) ∨
      t.part.isUp e.dest = false ∨ ∃ b, c = .deviceReset b
end

