-- ==== Sys2Proof/Laws/State.lean ====
section
/-!
SUPPORT. What each named update leaves as it was: one lemma for each field of Part, true by rfl.
-/

namespace Sys2Proof.Machine

@[simp] theorem Part.updLink_now (s : Part) (p : Port) (f : LinkPort → LinkPort) : (s.updLink p f).now = s.now := rfl
@[simp] theorem Part.updLink_starting (s : Part) (p : Port) (f : LinkPort → LinkPort) : (s.updLink p f).starting = s.starting := rfl
@[simp] theorem Part.updLink_tables (s : Part) (p : Port) (f : LinkPort → LinkPort) : (s.updLink p f).tables = s.tables := rfl
@[simp] theorem Part.updLink_stored (s : Part) (p : Port) (f : LinkPort → LinkPort) : (s.updLink p f).stored = s.stored := rfl
@[simp] theorem Part.updLink_notes (s : Part) (p : Port) (f : LinkPort → LinkPort) : (s.updLink p f).notes = s.notes := rfl
@[simp] theorem Part.updLink_scene (s : Part) (p : Port) (f : LinkPort → LinkPort) : (s.updLink p f).scene = s.scene := rfl
@[simp] theorem Part.updLink_setlist (s : Part) (p : Port) (f : LinkPort → LinkPort) : (s.updLink p f).setlist = s.setlist := rfl
@[simp] theorem Part.updLink_tempo (s : Part) (p : Port) (f : LinkPort → LinkPort) : (s.updLink p f).tempo = s.tempo := rfl
@[simp] theorem Part.updLink_click (s : Part) (p : Port) (f : LinkPort → LinkPort) : (s.updLink p f).click = s.click := rfl
@[simp] theorem Part.updLink_pedal (s : Part) (p : Port) (f : LinkPort → LinkPort) : (s.updLink p f).pedal = s.pedal := rfl
@[simp] theorem Part.updLink_watch (s : Part) (p : Port) (f : LinkPort → LinkPort) : (s.updLink p f).watch = s.watch := rfl
@[simp] theorem Part.updLink_console (s : Part) (p : Port) (f : LinkPort → LinkPort) : (s.updLink p f).console = s.console := rfl
@[simp] theorem Part.updLink_free (s : Part) (p : Port) (f : LinkPort → LinkPort) : (s.updLink p f).free = s.free := rfl

@[simp] theorem Part.updModule_now (s : Part) (p : Port) (f : Presence → Presence) : (s.updModule p f).now = s.now := rfl
@[simp] theorem Part.updModule_starting (s : Part) (p : Port) (f : Presence → Presence) : (s.updModule p f).starting = s.starting := rfl
@[simp] theorem Part.updModule_tables (s : Part) (p : Port) (f : Presence → Presence) : (s.updModule p f).tables = s.tables := rfl
@[simp] theorem Part.updModule_stored (s : Part) (p : Port) (f : Presence → Presence) : (s.updModule p f).stored = s.stored := rfl
@[simp] theorem Part.updModule_links (s : Part) (p : Port) (f : Presence → Presence) : (s.updModule p f).links = s.links := rfl
@[simp] theorem Part.updModule_notes (s : Part) (p : Port) (f : Presence → Presence) : (s.updModule p f).notes = s.notes := rfl
@[simp] theorem Part.updModule_scene (s : Part) (p : Port) (f : Presence → Presence) : (s.updModule p f).scene = s.scene := rfl
@[simp] theorem Part.updModule_setlist (s : Part) (p : Port) (f : Presence → Presence) : (s.updModule p f).setlist = s.setlist := rfl
@[simp] theorem Part.updModule_tempo (s : Part) (p : Port) (f : Presence → Presence) : (s.updModule p f).tempo = s.tempo := rfl
@[simp] theorem Part.updModule_click (s : Part) (p : Port) (f : Presence → Presence) : (s.updModule p f).click = s.click := rfl
@[simp] theorem Part.updModule_pedal (s : Part) (p : Port) (f : Presence → Presence) : (s.updModule p f).pedal = s.pedal := rfl
@[simp] theorem Part.updModule_console (s : Part) (p : Port) (f : Presence → Presence) : (s.updModule p f).console = s.console := rfl
@[simp] theorem Part.updModule_free (s : Part) (p : Port) (f : Presence → Presence) : (s.updModule p f).free = s.free := rfl

@[simp] theorem Part.setSubstitute_now (s : Part) (p : Port) (b : Option Port) : (s.setSubstitute p b).now = s.now := rfl
@[simp] theorem Part.setSubstitute_starting (s : Part) (p : Port) (b : Option Port) : (s.setSubstitute p b).starting = s.starting := rfl
@[simp] theorem Part.setSubstitute_tables (s : Part) (p : Port) (b : Option Port) : (s.setSubstitute p b).tables = s.tables := rfl
@[simp] theorem Part.setSubstitute_stored (s : Part) (p : Port) (b : Option Port) : (s.setSubstitute p b).stored = s.stored := rfl
@[simp] theorem Part.setSubstitute_links (s : Part) (p : Port) (b : Option Port) : (s.setSubstitute p b).links = s.links := rfl
@[simp] theorem Part.setSubstitute_notes (s : Part) (p : Port) (b : Option Port) : (s.setSubstitute p b).notes = s.notes := rfl
@[simp] theorem Part.setSubstitute_scene (s : Part) (p : Port) (b : Option Port) : (s.setSubstitute p b).scene = s.scene := rfl
@[simp] theorem Part.setSubstitute_setlist (s : Part) (p : Port) (b : Option Port) : (s.setSubstitute p b).setlist = s.setlist := rfl
@[simp] theorem Part.setSubstitute_tempo (s : Part) (p : Port) (b : Option Port) : (s.setSubstitute p b).tempo = s.tempo := rfl
@[simp] theorem Part.setSubstitute_click (s : Part) (p : Port) (b : Option Port) : (s.setSubstitute p b).click = s.click := rfl
@[simp] theorem Part.setSubstitute_pedal (s : Part) (p : Port) (b : Option Port) : (s.setSubstitute p b).pedal = s.pedal := rfl
@[simp] theorem Part.setSubstitute_console (s : Part) (p : Port) (b : Option Port) : (s.setSubstitute p b).console = s.console := rfl
@[simp] theorem Part.setSubstitute_free (s : Part) (p : Port) (b : Option Port) : (s.setSubstitute p b).free = s.free := rfl

@[simp] theorem Part.dropSubstitute_now (s : Part) (p : Port) : (s.dropSubstitute p).now = s.now := rfl
@[simp] theorem Part.dropSubstitute_starting (s : Part) (p : Port) : (s.dropSubstitute p).starting = s.starting := rfl
@[simp] theorem Part.dropSubstitute_tables (s : Part) (p : Port) : (s.dropSubstitute p).tables = s.tables := rfl
@[simp] theorem Part.dropSubstitute_stored (s : Part) (p : Port) : (s.dropSubstitute p).stored = s.stored := rfl
@[simp] theorem Part.dropSubstitute_links (s : Part) (p : Port) : (s.dropSubstitute p).links = s.links := rfl
@[simp] theorem Part.dropSubstitute_notes (s : Part) (p : Port) : (s.dropSubstitute p).notes = s.notes := rfl
@[simp] theorem Part.dropSubstitute_scene (s : Part) (p : Port) : (s.dropSubstitute p).scene = s.scene := rfl
@[simp] theorem Part.dropSubstitute_setlist (s : Part) (p : Port) : (s.dropSubstitute p).setlist = s.setlist := rfl
@[simp] theorem Part.dropSubstitute_tempo (s : Part) (p : Port) : (s.dropSubstitute p).tempo = s.tempo := rfl
@[simp] theorem Part.dropSubstitute_click (s : Part) (p : Port) : (s.dropSubstitute p).click = s.click := rfl
@[simp] theorem Part.dropSubstitute_pedal (s : Part) (p : Port) : (s.dropSubstitute p).pedal = s.pedal := rfl
@[simp] theorem Part.dropSubstitute_console (s : Part) (p : Port) : (s.dropSubstitute p).console = s.console := rfl
@[simp] theorem Part.dropSubstitute_free (s : Part) (p : Port) : (s.dropSubstitute p).free = s.free := rfl

@[simp] theorem Part.elapse_starting (s : Part) (us : Nat) : (s.elapse us).starting = s.starting := rfl
@[simp] theorem Part.elapse_tables (s : Part) (us : Nat) : (s.elapse us).tables = s.tables := rfl
@[simp] theorem Part.elapse_stored (s : Part) (us : Nat) : (s.elapse us).stored = s.stored := rfl
@[simp] theorem Part.elapse_links (s : Part) (us : Nat) : (s.elapse us).links = s.links := rfl
@[simp] theorem Part.elapse_notes (s : Part) (us : Nat) : (s.elapse us).notes = s.notes := rfl
@[simp] theorem Part.elapse_scene (s : Part) (us : Nat) : (s.elapse us).scene = s.scene := rfl
@[simp] theorem Part.elapse_setlist (s : Part) (us : Nat) : (s.elapse us).setlist = s.setlist := rfl
@[simp] theorem Part.elapse_click (s : Part) (us : Nat) : (s.elapse us).click = s.click := rfl
@[simp] theorem Part.elapse_pedal (s : Part) (us : Nat) : (s.elapse us).pedal = s.pedal := rfl
@[simp] theorem Part.elapse_watch (s : Part) (us : Nat) : (s.elapse us).watch = s.watch := rfl
@[simp] theorem Part.elapse_console (s : Part) (us : Nat) : (s.elapse us).console = s.console := rfl
@[simp] theorem Part.elapse_free (s : Part) (us : Nat) : (s.elapse us).free = s.free := rfl

@[simp] theorem Part.elapseTo_starting (s : Part) (t : Nat) : (s.elapseTo t).starting = s.starting := rfl
@[simp] theorem Part.elapseTo_tables (s : Part) (t : Nat) : (s.elapseTo t).tables = s.tables := rfl
@[simp] theorem Part.elapseTo_stored (s : Part) (t : Nat) : (s.elapseTo t).stored = s.stored := rfl
@[simp] theorem Part.elapseTo_links (s : Part) (t : Nat) : (s.elapseTo t).links = s.links := rfl
@[simp] theorem Part.elapseTo_notes (s : Part) (t : Nat) : (s.elapseTo t).notes = s.notes := rfl
@[simp] theorem Part.elapseTo_scene (s : Part) (t : Nat) : (s.elapseTo t).scene = s.scene := rfl
@[simp] theorem Part.elapseTo_setlist (s : Part) (t : Nat) : (s.elapseTo t).setlist = s.setlist := rfl
@[simp] theorem Part.elapseTo_click (s : Part) (t : Nat) : (s.elapseTo t).click = s.click := rfl
@[simp] theorem Part.elapseTo_pedal (s : Part) (t : Nat) : (s.elapseTo t).pedal = s.pedal := rfl
@[simp] theorem Part.elapseTo_watch (s : Part) (t : Nat) : (s.elapseTo t).watch = s.watch := rfl
@[simp] theorem Part.elapseTo_console (s : Part) (t : Nat) : (s.elapseTo t).console = s.console := rfl
@[simp] theorem Part.elapseTo_free (s : Part) (t : Nat) : (s.elapseTo t).free = s.free := rfl

@[simp] theorem Part.countUnexpected_now (s : Part) (p : Port) : (s.countUnexpected p).now = s.now := rfl
@[simp] theorem Part.countUnexpected_starting (s : Part) (p : Port) : (s.countUnexpected p).starting = s.starting := rfl
@[simp] theorem Part.countUnexpected_tables (s : Part) (p : Port) : (s.countUnexpected p).tables = s.tables := rfl
@[simp] theorem Part.countUnexpected_stored (s : Part) (p : Port) : (s.countUnexpected p).stored = s.stored := rfl
@[simp] theorem Part.countUnexpected_notes (s : Part) (p : Port) : (s.countUnexpected p).notes = s.notes := rfl
@[simp] theorem Part.countUnexpected_scene (s : Part) (p : Port) : (s.countUnexpected p).scene = s.scene := rfl
@[simp] theorem Part.countUnexpected_setlist (s : Part) (p : Port) : (s.countUnexpected p).setlist = s.setlist := rfl
@[simp] theorem Part.countUnexpected_tempo (s : Part) (p : Port) : (s.countUnexpected p).tempo = s.tempo := rfl
@[simp] theorem Part.countUnexpected_click (s : Part) (p : Port) : (s.countUnexpected p).click = s.click := rfl
@[simp] theorem Part.countUnexpected_pedal (s : Part) (p : Port) : (s.countUnexpected p).pedal = s.pedal := rfl
@[simp] theorem Part.countUnexpected_watch (s : Part) (p : Port) : (s.countUnexpected p).watch = s.watch := rfl
@[simp] theorem Part.countUnexpected_console (s : Part) (p : Port) : (s.countUnexpected p).console = s.console := rfl
@[simp] theorem Part.countUnexpected_free (s : Part) (p : Port) : (s.countUnexpected p).free = s.free := rfl

@[simp] theorem Part.setStarted_now (s : Part) (p : Port) (b : Bool) : (s.setStarted p b).now = s.now := rfl
@[simp] theorem Part.setStarted_starting (s : Part) (p : Port) (b : Bool) : (s.setStarted p b).starting = s.starting := rfl
@[simp] theorem Part.setStarted_tables (s : Part) (p : Port) (b : Bool) : (s.setStarted p b).tables = s.tables := rfl
@[simp] theorem Part.setStarted_stored (s : Part) (p : Port) (b : Bool) : (s.setStarted p b).stored = s.stored := rfl
@[simp] theorem Part.setStarted_links (s : Part) (p : Port) (b : Bool) : (s.setStarted p b).links = s.links := rfl
@[simp] theorem Part.setStarted_notes (s : Part) (p : Port) (b : Bool) : (s.setStarted p b).notes = s.notes := rfl
@[simp] theorem Part.setStarted_scene (s : Part) (p : Port) (b : Bool) : (s.setStarted p b).scene = s.scene := rfl
@[simp] theorem Part.setStarted_setlist (s : Part) (p : Port) (b : Bool) : (s.setStarted p b).setlist = s.setlist := rfl
@[simp] theorem Part.setStarted_tempo (s : Part) (p : Port) (b : Bool) : (s.setStarted p b).tempo = s.tempo := rfl
@[simp] theorem Part.setStarted_pedal (s : Part) (p : Port) (b : Bool) : (s.setStarted p b).pedal = s.pedal := rfl
@[simp] theorem Part.setStarted_watch (s : Part) (p : Port) (b : Bool) : (s.setStarted p b).watch = s.watch := rfl
@[simp] theorem Part.setStarted_console (s : Part) (p : Port) (b : Bool) : (s.setStarted p b).console = s.console := rfl
@[simp] theorem Part.setStarted_free (s : Part) (p : Port) (b : Bool) : (s.setStarted p b).free = s.free := rfl

@[simp] theorem Part.setHeldMute_now (s : Part) (i : Trigger) (b : Bool) : (s.setHeldMute i b).now = s.now := rfl
@[simp] theorem Part.setHeldMute_starting (s : Part) (i : Trigger) (b : Bool) : (s.setHeldMute i b).starting = s.starting := rfl
@[simp] theorem Part.setHeldMute_tables (s : Part) (i : Trigger) (b : Bool) : (s.setHeldMute i b).tables = s.tables := rfl
@[simp] theorem Part.setHeldMute_stored (s : Part) (i : Trigger) (b : Bool) : (s.setHeldMute i b).stored = s.stored := rfl
@[simp] theorem Part.setHeldMute_links (s : Part) (i : Trigger) (b : Bool) : (s.setHeldMute i b).links = s.links := rfl
@[simp] theorem Part.setHeldMute_notes (s : Part) (i : Trigger) (b : Bool) : (s.setHeldMute i b).notes = s.notes := rfl
@[simp] theorem Part.setHeldMute_scene (s : Part) (i : Trigger) (b : Bool) : (s.setHeldMute i b).scene = s.scene := rfl
@[simp] theorem Part.setHeldMute_setlist (s : Part) (i : Trigger) (b : Bool) : (s.setHeldMute i b).setlist = s.setlist := rfl
@[simp] theorem Part.setHeldMute_tempo (s : Part) (i : Trigger) (b : Bool) : (s.setHeldMute i b).tempo = s.tempo := rfl
@[simp] theorem Part.setHeldMute_pedal (s : Part) (i : Trigger) (b : Bool) : (s.setHeldMute i b).pedal = s.pedal := rfl
@[simp] theorem Part.setHeldMute_watch (s : Part) (i : Trigger) (b : Bool) : (s.setHeldMute i b).watch = s.watch := rfl
@[simp] theorem Part.setHeldMute_console (s : Part) (i : Trigger) (b : Bool) : (s.setHeldMute i b).console = s.console := rfl
@[simp] theorem Part.setHeldMute_free (s : Part) (i : Trigger) (b : Bool) : (s.setHeldMute i b).free = s.free := rfl

@[simp] theorem Part.setCueMute_now (s : Part) (b : Bool) : (s.setCueMute b).now = s.now := rfl
@[simp] theorem Part.setCueMute_starting (s : Part) (b : Bool) : (s.setCueMute b).starting = s.starting := rfl
@[simp] theorem Part.setCueMute_tables (s : Part) (b : Bool) : (s.setCueMute b).tables = s.tables := rfl
@[simp] theorem Part.setCueMute_stored (s : Part) (b : Bool) : (s.setCueMute b).stored = s.stored := rfl
@[simp] theorem Part.setCueMute_links (s : Part) (b : Bool) : (s.setCueMute b).links = s.links := rfl
@[simp] theorem Part.setCueMute_notes (s : Part) (b : Bool) : (s.setCueMute b).notes = s.notes := rfl
@[simp] theorem Part.setCueMute_scene (s : Part) (b : Bool) : (s.setCueMute b).scene = s.scene := rfl
@[simp] theorem Part.setCueMute_setlist (s : Part) (b : Bool) : (s.setCueMute b).setlist = s.setlist := rfl
@[simp] theorem Part.setCueMute_tempo (s : Part) (b : Bool) : (s.setCueMute b).tempo = s.tempo := rfl
@[simp] theorem Part.setCueMute_pedal (s : Part) (b : Bool) : (s.setCueMute b).pedal = s.pedal := rfl
@[simp] theorem Part.setCueMute_watch (s : Part) (b : Bool) : (s.setCueMute b).watch = s.watch := rfl
@[simp] theorem Part.setCueMute_console (s : Part) (b : Bool) : (s.setCueMute b).console = s.console := rfl
@[simp] theorem Part.setCueMute_free (s : Part) (b : Bool) : (s.setCueMute b).free = s.free := rfl

@[simp] theorem Part.setEntries_now (s : Part) (es : List Entry) : (s.setEntries es).now = s.now := rfl
@[simp] theorem Part.setEntries_starting (s : Part) (es : List Entry) : (s.setEntries es).starting = s.starting := rfl
@[simp] theorem Part.setEntries_tables (s : Part) (es : List Entry) : (s.setEntries es).tables = s.tables := rfl
@[simp] theorem Part.setEntries_stored (s : Part) (es : List Entry) : (s.setEntries es).stored = s.stored := rfl
@[simp] theorem Part.setEntries_links (s : Part) (es : List Entry) : (s.setEntries es).links = s.links := rfl
@[simp] theorem Part.setEntries_scene (s : Part) (es : List Entry) : (s.setEntries es).scene = s.scene := rfl
@[simp] theorem Part.setEntries_setlist (s : Part) (es : List Entry) : (s.setEntries es).setlist = s.setlist := rfl
@[simp] theorem Part.setEntries_tempo (s : Part) (es : List Entry) : (s.setEntries es).tempo = s.tempo := rfl
@[simp] theorem Part.setEntries_click (s : Part) (es : List Entry) : (s.setEntries es).click = s.click := rfl
@[simp] theorem Part.setEntries_pedal (s : Part) (es : List Entry) : (s.setEntries es).pedal = s.pedal := rfl
@[simp] theorem Part.setEntries_watch (s : Part) (es : List Entry) : (s.setEntries es).watch = s.watch := rfl
@[simp] theorem Part.setEntries_console (s : Part) (es : List Entry) : (s.setEntries es).console = s.console := rfl
@[simp] theorem Part.setEntries_free (s : Part) (es : List Entry) : (s.setEntries es).free = s.free := rfl

@[simp] theorem Part.mapEntries_now (s : Part) (w : Entry → Bool) (f : Entry → Entry) : (s.mapEntries w f).now = s.now := rfl
@[simp] theorem Part.mapEntries_starting (s : Part) (w : Entry → Bool) (f : Entry → Entry) : (s.mapEntries w f).starting = s.starting := rfl
@[simp] theorem Part.mapEntries_tables (s : Part) (w : Entry → Bool) (f : Entry → Entry) : (s.mapEntries w f).tables = s.tables := rfl
@[simp] theorem Part.mapEntries_stored (s : Part) (w : Entry → Bool) (f : Entry → Entry) : (s.mapEntries w f).stored = s.stored := rfl
@[simp] theorem Part.mapEntries_links (s : Part) (w : Entry → Bool) (f : Entry → Entry) : (s.mapEntries w f).links = s.links := rfl
@[simp] theorem Part.mapEntries_scene (s : Part) (w : Entry → Bool) (f : Entry → Entry) : (s.mapEntries w f).scene = s.scene := rfl
@[simp] theorem Part.mapEntries_setlist (s : Part) (w : Entry → Bool) (f : Entry → Entry) : (s.mapEntries w f).setlist = s.setlist := rfl
@[simp] theorem Part.mapEntries_tempo (s : Part) (w : Entry → Bool) (f : Entry → Entry) : (s.mapEntries w f).tempo = s.tempo := rfl
@[simp] theorem Part.mapEntries_click (s : Part) (w : Entry → Bool) (f : Entry → Entry) : (s.mapEntries w f).click = s.click := rfl
@[simp] theorem Part.mapEntries_pedal (s : Part) (w : Entry → Bool) (f : Entry → Entry) : (s.mapEntries w f).pedal = s.pedal := rfl
@[simp] theorem Part.mapEntries_watch (s : Part) (w : Entry → Bool) (f : Entry → Entry) : (s.mapEntries w f).watch = s.watch := rfl
@[simp] theorem Part.mapEntries_console (s : Part) (w : Entry → Bool) (f : Entry → Entry) : (s.mapEntries w f).console = s.console := rfl
@[simp] theorem Part.mapEntries_free (s : Part) (w : Entry → Bool) (f : Entry → Entry) : (s.mapEntries w f).free = s.free := rfl

@[simp] theorem Part.releaseEntries_now (s : Part) (c : Cause) (w : Entry → Bool) : (s.releaseEntries c w).now = s.now := rfl
@[simp] theorem Part.releaseEntries_starting (s : Part) (c : Cause) (w : Entry → Bool) : (s.releaseEntries c w).starting = s.starting := rfl
@[simp] theorem Part.releaseEntries_tables (s : Part) (c : Cause) (w : Entry → Bool) : (s.releaseEntries c w).tables = s.tables := rfl
@[simp] theorem Part.releaseEntries_stored (s : Part) (c : Cause) (w : Entry → Bool) : (s.releaseEntries c w).stored = s.stored := rfl
@[simp] theorem Part.releaseEntries_links (s : Part) (c : Cause) (w : Entry → Bool) : (s.releaseEntries c w).links = s.links := rfl
@[simp] theorem Part.releaseEntries_scene (s : Part) (c : Cause) (w : Entry → Bool) : (s.releaseEntries c w).scene = s.scene := rfl
@[simp] theorem Part.releaseEntries_setlist (s : Part) (c : Cause) (w : Entry → Bool) : (s.releaseEntries c w).setlist = s.setlist := rfl
@[simp] theorem Part.releaseEntries_tempo (s : Part) (c : Cause) (w : Entry → Bool) : (s.releaseEntries c w).tempo = s.tempo := rfl
@[simp] theorem Part.releaseEntries_click (s : Part) (c : Cause) (w : Entry → Bool) : (s.releaseEntries c w).click = s.click := rfl
@[simp] theorem Part.releaseEntries_pedal (s : Part) (c : Cause) (w : Entry → Bool) : (s.releaseEntries c w).pedal = s.pedal := rfl
@[simp] theorem Part.releaseEntries_watch (s : Part) (c : Cause) (w : Entry → Bool) : (s.releaseEntries c w).watch = s.watch := rfl
@[simp] theorem Part.releaseEntries_console (s : Part) (c : Cause) (w : Entry → Bool) : (s.releaseEntries c w).console = s.console := rfl
@[simp] theorem Part.releaseEntries_free (s : Part) (c : Cause) (w : Entry → Bool) : (s.releaseEntries c w).free = s.free := rfl

@[simp] theorem Part.clearSustain_now (s : Part) (p : Port) : (s.clearSustain p).now = s.now := rfl
@[simp] theorem Part.clearSustain_starting (s : Part) (p : Port) : (s.clearSustain p).starting = s.starting := rfl
@[simp] theorem Part.clearSustain_tables (s : Part) (p : Port) : (s.clearSustain p).tables = s.tables := rfl
@[simp] theorem Part.clearSustain_stored (s : Part) (p : Port) : (s.clearSustain p).stored = s.stored := rfl
@[simp] theorem Part.clearSustain_links (s : Part) (p : Port) : (s.clearSustain p).links = s.links := rfl
@[simp] theorem Part.clearSustain_scene (s : Part) (p : Port) : (s.clearSustain p).scene = s.scene := rfl
@[simp] theorem Part.clearSustain_setlist (s : Part) (p : Port) : (s.clearSustain p).setlist = s.setlist := rfl
@[simp] theorem Part.clearSustain_tempo (s : Part) (p : Port) : (s.clearSustain p).tempo = s.tempo := rfl
@[simp] theorem Part.clearSustain_click (s : Part) (p : Port) : (s.clearSustain p).click = s.click := rfl
@[simp] theorem Part.clearSustain_pedal (s : Part) (p : Port) : (s.clearSustain p).pedal = s.pedal := rfl
@[simp] theorem Part.clearSustain_watch (s : Part) (p : Port) : (s.clearSustain p).watch = s.watch := rfl
@[simp] theorem Part.clearSustain_console (s : Part) (p : Port) : (s.clearSustain p).console = s.console := rfl
@[simp] theorem Part.clearSustain_free (s : Part) (p : Port) : (s.clearSustain p).free = s.free := rfl

@[simp] theorem Part.freshSustain_now (s : Part) (p : Port) : (s.freshSustain p).now = s.now := rfl
@[simp] theorem Part.freshSustain_starting (s : Part) (p : Port) : (s.freshSustain p).starting = s.starting := rfl
@[simp] theorem Part.freshSustain_tables (s : Part) (p : Port) : (s.freshSustain p).tables = s.tables := rfl
@[simp] theorem Part.freshSustain_stored (s : Part) (p : Port) : (s.freshSustain p).stored = s.stored := rfl
@[simp] theorem Part.freshSustain_links (s : Part) (p : Port) : (s.freshSustain p).links = s.links := rfl
@[simp] theorem Part.freshSustain_scene (s : Part) (p : Port) : (s.freshSustain p).scene = s.scene := rfl
@[simp] theorem Part.freshSustain_setlist (s : Part) (p : Port) : (s.freshSustain p).setlist = s.setlist := rfl
@[simp] theorem Part.freshSustain_tempo (s : Part) (p : Port) : (s.freshSustain p).tempo = s.tempo := rfl
@[simp] theorem Part.freshSustain_click (s : Part) (p : Port) : (s.freshSustain p).click = s.click := rfl
@[simp] theorem Part.freshSustain_pedal (s : Part) (p : Port) : (s.freshSustain p).pedal = s.pedal := rfl
@[simp] theorem Part.freshSustain_watch (s : Part) (p : Port) : (s.freshSustain p).watch = s.watch := rfl
@[simp] theorem Part.freshSustain_console (s : Part) (p : Port) : (s.freshSustain p).console = s.console := rfl
@[simp] theorem Part.freshSustain_free (s : Part) (p : Port) : (s.freshSustain p).free = s.free := rfl

@[simp] theorem Part.offerKept_now (s : Part) (p : Port) : (s.offerKept p).now = s.now := rfl
@[simp] theorem Part.offerKept_starting (s : Part) (p : Port) : (s.offerKept p).starting = s.starting := rfl
@[simp] theorem Part.offerKept_tables (s : Part) (p : Port) : (s.offerKept p).tables = s.tables := rfl
@[simp] theorem Part.offerKept_stored (s : Part) (p : Port) : (s.offerKept p).stored = s.stored := rfl
@[simp] theorem Part.offerKept_links (s : Part) (p : Port) : (s.offerKept p).links = s.links := rfl
@[simp] theorem Part.offerKept_notes (s : Part) (p : Port) : (s.offerKept p).notes = s.notes := rfl
@[simp] theorem Part.offerKept_scene (s : Part) (p : Port) : (s.offerKept p).scene = s.scene := rfl
@[simp] theorem Part.offerKept_setlist (s : Part) (p : Port) : (s.offerKept p).setlist = s.setlist := rfl
@[simp] theorem Part.offerKept_tempo (s : Part) (p : Port) : (s.offerKept p).tempo = s.tempo := rfl
@[simp] theorem Part.offerKept_click (s : Part) (p : Port) : (s.offerKept p).click = s.click := rfl
@[simp] theorem Part.offerKept_pedal (s : Part) (p : Port) : (s.offerKept p).pedal = s.pedal := rfl
@[simp] theorem Part.offerKept_console (s : Part) (p : Port) : (s.offerKept p).console = s.console := rfl
@[simp] theorem Part.offerKept_free (s : Part) (p : Port) : (s.offerKept p).free = s.free := rfl

@[simp] theorem Part.addEntry_now (s : Part) (e : Entry) : (s.addEntry e).now = s.now := rfl
@[simp] theorem Part.addEntry_starting (s : Part) (e : Entry) : (s.addEntry e).starting = s.starting := rfl
@[simp] theorem Part.addEntry_tables (s : Part) (e : Entry) : (s.addEntry e).tables = s.tables := rfl
@[simp] theorem Part.addEntry_stored (s : Part) (e : Entry) : (s.addEntry e).stored = s.stored := rfl
@[simp] theorem Part.addEntry_links (s : Part) (e : Entry) : (s.addEntry e).links = s.links := rfl
@[simp] theorem Part.addEntry_scene (s : Part) (e : Entry) : (s.addEntry e).scene = s.scene := rfl
@[simp] theorem Part.addEntry_setlist (s : Part) (e : Entry) : (s.addEntry e).setlist = s.setlist := rfl
@[simp] theorem Part.addEntry_tempo (s : Part) (e : Entry) : (s.addEntry e).tempo = s.tempo := rfl
@[simp] theorem Part.addEntry_click (s : Part) (e : Entry) : (s.addEntry e).click = s.click := rfl
@[simp] theorem Part.addEntry_pedal (s : Part) (e : Entry) : (s.addEntry e).pedal = s.pedal := rfl
@[simp] theorem Part.addEntry_console (s : Part) (e : Entry) : (s.addEntry e).console = s.console := rfl
@[simp] theorem Part.addEntry_free (s : Part) (e : Entry) : (s.addEntry e).free = s.free := rfl

@[simp] theorem Part.setSettle_now (s : Part) (p : Port) (v : Option Settle) : (s.setSettle p v).now = s.now := rfl
@[simp] theorem Part.setSettle_starting (s : Part) (p : Port) (v : Option Settle) : (s.setSettle p v).starting = s.starting := rfl
@[simp] theorem Part.setSettle_tables (s : Part) (p : Port) (v : Option Settle) : (s.setSettle p v).tables = s.tables := rfl
@[simp] theorem Part.setSettle_stored (s : Part) (p : Port) (v : Option Settle) : (s.setSettle p v).stored = s.stored := rfl
@[simp] theorem Part.setSettle_links (s : Part) (p : Port) (v : Option Settle) : (s.setSettle p v).links = s.links := rfl
@[simp] theorem Part.setSettle_notes (s : Part) (p : Port) (v : Option Settle) : (s.setSettle p v).notes = s.notes := rfl
@[simp] theorem Part.setSettle_setlist (s : Part) (p : Port) (v : Option Settle) : (s.setSettle p v).setlist = s.setlist := rfl
@[simp] theorem Part.setSettle_tempo (s : Part) (p : Port) (v : Option Settle) : (s.setSettle p v).tempo = s.tempo := rfl
@[simp] theorem Part.setSettle_click (s : Part) (p : Port) (v : Option Settle) : (s.setSettle p v).click = s.click := rfl
@[simp] theorem Part.setSettle_pedal (s : Part) (p : Port) (v : Option Settle) : (s.setSettle p v).pedal = s.pedal := rfl
@[simp] theorem Part.setSettle_watch (s : Part) (p : Port) (v : Option Settle) : (s.setSettle p v).watch = s.watch := rfl
@[simp] theorem Part.setSettle_console (s : Part) (p : Port) (v : Option Settle) : (s.setSettle p v).console = s.console := rfl
@[simp] theorem Part.setSettle_free (s : Part) (p : Port) (v : Option Settle) : (s.setSettle p v).free = s.free := rfl

@[simp] theorem Part.beginSettle_now (s : Part) (p : Port) : (s.beginSettle p).now = s.now := rfl
@[simp] theorem Part.beginSettle_starting (s : Part) (p : Port) : (s.beginSettle p).starting = s.starting := rfl
@[simp] theorem Part.beginSettle_tables (s : Part) (p : Port) : (s.beginSettle p).tables = s.tables := rfl
@[simp] theorem Part.beginSettle_stored (s : Part) (p : Port) : (s.beginSettle p).stored = s.stored := rfl
@[simp] theorem Part.beginSettle_links (s : Part) (p : Port) : (s.beginSettle p).links = s.links := rfl
@[simp] theorem Part.beginSettle_notes (s : Part) (p : Port) : (s.beginSettle p).notes = s.notes := rfl
@[simp] theorem Part.beginSettle_setlist (s : Part) (p : Port) : (s.beginSettle p).setlist = s.setlist := rfl
@[simp] theorem Part.beginSettle_tempo (s : Part) (p : Port) : (s.beginSettle p).tempo = s.tempo := rfl
@[simp] theorem Part.beginSettle_click (s : Part) (p : Port) : (s.beginSettle p).click = s.click := rfl
@[simp] theorem Part.beginSettle_pedal (s : Part) (p : Port) : (s.beginSettle p).pedal = s.pedal := rfl
@[simp] theorem Part.beginSettle_watch (s : Part) (p : Port) : (s.beginSettle p).watch = s.watch := rfl
@[simp] theorem Part.beginSettle_console (s : Part) (p : Port) : (s.beginSettle p).console = s.console := rfl
@[simp] theorem Part.beginSettle_free (s : Part) (p : Port) : (s.beginSettle p).free = s.free := rfl

@[simp] theorem Part.abandonSettle_now (s : Part) (p : Port) : (s.abandonSettle p).now = s.now := rfl
@[simp] theorem Part.abandonSettle_starting (s : Part) (p : Port) : (s.abandonSettle p).starting = s.starting := rfl
@[simp] theorem Part.abandonSettle_tables (s : Part) (p : Port) : (s.abandonSettle p).tables = s.tables := rfl
@[simp] theorem Part.abandonSettle_stored (s : Part) (p : Port) : (s.abandonSettle p).stored = s.stored := rfl
@[simp] theorem Part.abandonSettle_links (s : Part) (p : Port) : (s.abandonSettle p).links = s.links := rfl
@[simp] theorem Part.abandonSettle_notes (s : Part) (p : Port) : (s.abandonSettle p).notes = s.notes := rfl
@[simp] theorem Part.abandonSettle_setlist (s : Part) (p : Port) : (s.abandonSettle p).setlist = s.setlist := rfl
@[simp] theorem Part.abandonSettle_tempo (s : Part) (p : Port) : (s.abandonSettle p).tempo = s.tempo := rfl
@[simp] theorem Part.abandonSettle_click (s : Part) (p : Port) : (s.abandonSettle p).click = s.click := rfl
@[simp] theorem Part.abandonSettle_pedal (s : Part) (p : Port) : (s.abandonSettle p).pedal = s.pedal := rfl
@[simp] theorem Part.abandonSettle_watch (s : Part) (p : Port) : (s.abandonSettle p).watch = s.watch := rfl
@[simp] theorem Part.abandonSettle_console (s : Part) (p : Port) : (s.abandonSettle p).console = s.console := rfl
@[simp] theorem Part.abandonSettle_free (s : Part) (p : Port) : (s.abandonSettle p).free = s.free := rfl

@[simp] theorem Part.freshSettle_now (s : Part) (p : Port) : (s.freshSettle p).now = s.now := rfl
@[simp] theorem Part.freshSettle_starting (s : Part) (p : Port) : (s.freshSettle p).starting = s.starting := rfl
@[simp] theorem Part.freshSettle_tables (s : Part) (p : Port) : (s.freshSettle p).tables = s.tables := rfl
@[simp] theorem Part.freshSettle_stored (s : Part) (p : Port) : (s.freshSettle p).stored = s.stored := rfl
@[simp] theorem Part.freshSettle_links (s : Part) (p : Port) : (s.freshSettle p).links = s.links := rfl
@[simp] theorem Part.freshSettle_notes (s : Part) (p : Port) : (s.freshSettle p).notes = s.notes := rfl
@[simp] theorem Part.freshSettle_setlist (s : Part) (p : Port) : (s.freshSettle p).setlist = s.setlist := rfl
@[simp] theorem Part.freshSettle_tempo (s : Part) (p : Port) : (s.freshSettle p).tempo = s.tempo := rfl
@[simp] theorem Part.freshSettle_click (s : Part) (p : Port) : (s.freshSettle p).click = s.click := rfl
@[simp] theorem Part.freshSettle_pedal (s : Part) (p : Port) : (s.freshSettle p).pedal = s.pedal := rfl
@[simp] theorem Part.freshSettle_watch (s : Part) (p : Port) : (s.freshSettle p).watch = s.watch := rfl
@[simp] theorem Part.freshSettle_console (s : Part) (p : Port) : (s.freshSettle p).console = s.console := rfl
@[simp] theorem Part.freshSettle_free (s : Part) (p : Port) : (s.freshSettle p).free = s.free := rfl

@[simp] theorem Part.setTempo_now (s : Part) (f : TempoState → TempoState) : (s.setTempo f).now = s.now := rfl
@[simp] theorem Part.setTempo_starting (s : Part) (f : TempoState → TempoState) : (s.setTempo f).starting = s.starting := rfl
@[simp] theorem Part.setTempo_tables (s : Part) (f : TempoState → TempoState) : (s.setTempo f).tables = s.tables := rfl
@[simp] theorem Part.setTempo_stored (s : Part) (f : TempoState → TempoState) : (s.setTempo f).stored = s.stored := rfl
@[simp] theorem Part.setTempo_links (s : Part) (f : TempoState → TempoState) : (s.setTempo f).links = s.links := rfl
@[simp] theorem Part.setTempo_notes (s : Part) (f : TempoState → TempoState) : (s.setTempo f).notes = s.notes := rfl
@[simp] theorem Part.setTempo_scene (s : Part) (f : TempoState → TempoState) : (s.setTempo f).scene = s.scene := rfl
@[simp] theorem Part.setTempo_setlist (s : Part) (f : TempoState → TempoState) : (s.setTempo f).setlist = s.setlist := rfl
@[simp] theorem Part.setTempo_click (s : Part) (f : TempoState → TempoState) : (s.setTempo f).click = s.click := rfl
@[simp] theorem Part.setTempo_pedal (s : Part) (f : TempoState → TempoState) : (s.setTempo f).pedal = s.pedal := rfl
@[simp] theorem Part.setTempo_watch (s : Part) (f : TempoState → TempoState) : (s.setTempo f).watch = s.watch := rfl
@[simp] theorem Part.setTempo_console (s : Part) (f : TempoState → TempoState) : (s.setTempo f).console = s.console := rfl
@[simp] theorem Part.setTempo_free (s : Part) (f : TempoState → TempoState) : (s.setTempo f).free = s.free := rfl

@[simp] theorem Part.setTransport_now (s : Part) (t : Transport) : (s.setTransport t).now = s.now := rfl
@[simp] theorem Part.setTransport_starting (s : Part) (t : Transport) : (s.setTransport t).starting = s.starting := rfl
@[simp] theorem Part.setTransport_tables (s : Part) (t : Transport) : (s.setTransport t).tables = s.tables := rfl
@[simp] theorem Part.setTransport_stored (s : Part) (t : Transport) : (s.setTransport t).stored = s.stored := rfl
@[simp] theorem Part.setTransport_links (s : Part) (t : Transport) : (s.setTransport t).links = s.links := rfl
@[simp] theorem Part.setTransport_notes (s : Part) (t : Transport) : (s.setTransport t).notes = s.notes := rfl
@[simp] theorem Part.setTransport_scene (s : Part) (t : Transport) : (s.setTransport t).scene = s.scene := rfl
@[simp] theorem Part.setTransport_setlist (s : Part) (t : Transport) : (s.setTransport t).setlist = s.setlist := rfl
@[simp] theorem Part.setTransport_click (s : Part) (t : Transport) : (s.setTransport t).click = s.click := rfl
@[simp] theorem Part.setTransport_pedal (s : Part) (t : Transport) : (s.setTransport t).pedal = s.pedal := rfl
@[simp] theorem Part.setTransport_watch (s : Part) (t : Transport) : (s.setTransport t).watch = s.watch := rfl
@[simp] theorem Part.setTransport_console (s : Part) (t : Transport) : (s.setTransport t).console = s.console := rfl
@[simp] theorem Part.setTransport_free (s : Part) (t : Transport) : (s.setTransport t).free = s.free := rfl

@[simp] theorem Part.emptyWindow_now (s : Part) : s.emptyWindow.now = s.now := rfl
@[simp] theorem Part.emptyWindow_starting (s : Part) : s.emptyWindow.starting = s.starting := rfl
@[simp] theorem Part.emptyWindow_tables (s : Part) : s.emptyWindow.tables = s.tables := rfl
@[simp] theorem Part.emptyWindow_stored (s : Part) : s.emptyWindow.stored = s.stored := rfl
@[simp] theorem Part.emptyWindow_links (s : Part) : s.emptyWindow.links = s.links := rfl
@[simp] theorem Part.emptyWindow_notes (s : Part) : s.emptyWindow.notes = s.notes := rfl
@[simp] theorem Part.emptyWindow_scene (s : Part) : s.emptyWindow.scene = s.scene := rfl
@[simp] theorem Part.emptyWindow_setlist (s : Part) : s.emptyWindow.setlist = s.setlist := rfl
@[simp] theorem Part.emptyWindow_click (s : Part) : s.emptyWindow.click = s.click := rfl
@[simp] theorem Part.emptyWindow_pedal (s : Part) : s.emptyWindow.pedal = s.pedal := rfl
@[simp] theorem Part.emptyWindow_watch (s : Part) : s.emptyWindow.watch = s.watch := rfl
@[simp] theorem Part.emptyWindow_console (s : Part) : s.emptyWindow.console = s.console := rfl
@[simp] theorem Part.emptyWindow_free (s : Part) : s.emptyWindow.free = s.free := rfl

@[simp] theorem Part.setOverride_now (s : Part) (v : Option Nat) : (s.setOverride v).now = s.now := rfl
@[simp] theorem Part.setOverride_starting (s : Part) (v : Option Nat) : (s.setOverride v).starting = s.starting := rfl
@[simp] theorem Part.setOverride_tables (s : Part) (v : Option Nat) : (s.setOverride v).tables = s.tables := rfl
@[simp] theorem Part.setOverride_stored (s : Part) (v : Option Nat) : (s.setOverride v).stored = s.stored := rfl
@[simp] theorem Part.setOverride_links (s : Part) (v : Option Nat) : (s.setOverride v).links = s.links := rfl
@[simp] theorem Part.setOverride_notes (s : Part) (v : Option Nat) : (s.setOverride v).notes = s.notes := rfl
@[simp] theorem Part.setOverride_scene (s : Part) (v : Option Nat) : (s.setOverride v).scene = s.scene := rfl
@[simp] theorem Part.setOverride_setlist (s : Part) (v : Option Nat) : (s.setOverride v).setlist = s.setlist := rfl
@[simp] theorem Part.setOverride_click (s : Part) (v : Option Nat) : (s.setOverride v).click = s.click := rfl
@[simp] theorem Part.setOverride_pedal (s : Part) (v : Option Nat) : (s.setOverride v).pedal = s.pedal := rfl
@[simp] theorem Part.setOverride_watch (s : Part) (v : Option Nat) : (s.setOverride v).watch = s.watch := rfl
@[simp] theorem Part.setOverride_console (s : Part) (v : Option Nat) : (s.setOverride v).console = s.console := rfl
@[simp] theorem Part.setOverride_free (s : Part) (v : Option Nat) : (s.setOverride v).free = s.free := rfl

@[simp] theorem Part.setPending_now (s : Part) (r : Option PendingChange) : (s.setPending r).now = s.now := rfl
@[simp] theorem Part.setPending_starting (s : Part) (r : Option PendingChange) : (s.setPending r).starting = s.starting := rfl
@[simp] theorem Part.setPending_tables (s : Part) (r : Option PendingChange) : (s.setPending r).tables = s.tables := rfl
@[simp] theorem Part.setPending_stored (s : Part) (r : Option PendingChange) : (s.setPending r).stored = s.stored := rfl
@[simp] theorem Part.setPending_links (s : Part) (r : Option PendingChange) : (s.setPending r).links = s.links := rfl
@[simp] theorem Part.setPending_notes (s : Part) (r : Option PendingChange) : (s.setPending r).notes = s.notes := rfl
@[simp] theorem Part.setPending_scene (s : Part) (r : Option PendingChange) : (s.setPending r).scene = s.scene := rfl
@[simp] theorem Part.setPending_tempo (s : Part) (r : Option PendingChange) : (s.setPending r).tempo = s.tempo := rfl
@[simp] theorem Part.setPending_click (s : Part) (r : Option PendingChange) : (s.setPending r).click = s.click := rfl
@[simp] theorem Part.setPending_pedal (s : Part) (r : Option PendingChange) : (s.setPending r).pedal = s.pedal := rfl
@[simp] theorem Part.setPending_watch (s : Part) (r : Option PendingChange) : (s.setPending r).watch = s.watch := rfl
@[simp] theorem Part.setPending_console (s : Part) (r : Option PendingChange) : (s.setPending r).console = s.console := rfl
@[simp] theorem Part.setPending_free (s : Part) (r : Option PendingChange) : (s.setPending r).free = s.free := rfl

@[simp] theorem Part.markHere_now (s : Part) : s.markHere.now = s.now := rfl
@[simp] theorem Part.markHere_starting (s : Part) : s.markHere.starting = s.starting := rfl
@[simp] theorem Part.markHere_tables (s : Part) : s.markHere.tables = s.tables := rfl
@[simp] theorem Part.markHere_stored (s : Part) : s.markHere.stored = s.stored := rfl
@[simp] theorem Part.markHere_links (s : Part) : s.markHere.links = s.links := rfl
@[simp] theorem Part.markHere_notes (s : Part) : s.markHere.notes = s.notes := rfl
@[simp] theorem Part.markHere_scene (s : Part) : s.markHere.scene = s.scene := rfl
@[simp] theorem Part.markHere_tempo (s : Part) : s.markHere.tempo = s.tempo := rfl
@[simp] theorem Part.markHere_click (s : Part) : s.markHere.click = s.click := rfl
@[simp] theorem Part.markHere_pedal (s : Part) : s.markHere.pedal = s.pedal := rfl
@[simp] theorem Part.markHere_watch (s : Part) : s.markHere.watch = s.watch := rfl
@[simp] theorem Part.markHere_console (s : Part) : s.markHere.console = s.console := rfl
@[simp] theorem Part.markHere_free (s : Part) : s.markHere.free = s.free := rfl

@[simp] theorem Part.resetMark_now (s : Part) : s.resetMark.now = s.now := rfl
@[simp] theorem Part.resetMark_starting (s : Part) : s.resetMark.starting = s.starting := rfl
@[simp] theorem Part.resetMark_tables (s : Part) : s.resetMark.tables = s.tables := rfl
@[simp] theorem Part.resetMark_stored (s : Part) : s.resetMark.stored = s.stored := rfl
@[simp] theorem Part.resetMark_links (s : Part) : s.resetMark.links = s.links := rfl
@[simp] theorem Part.resetMark_notes (s : Part) : s.resetMark.notes = s.notes := rfl
@[simp] theorem Part.resetMark_scene (s : Part) : s.resetMark.scene = s.scene := rfl
@[simp] theorem Part.resetMark_tempo (s : Part) : s.resetMark.tempo = s.tempo := rfl
@[simp] theorem Part.resetMark_click (s : Part) : s.resetMark.click = s.click := rfl
@[simp] theorem Part.resetMark_pedal (s : Part) : s.resetMark.pedal = s.pedal := rfl
@[simp] theorem Part.resetMark_watch (s : Part) : s.resetMark.watch = s.watch := rfl
@[simp] theorem Part.resetMark_console (s : Part) : s.resetMark.console = s.console := rfl
@[simp] theorem Part.resetMark_free (s : Part) : s.resetMark.free = s.free := rfl

@[simp] theorem Part.startSetlist_now (s : Part) : s.startSetlist.now = s.now := rfl
@[simp] theorem Part.startSetlist_starting (s : Part) : s.startSetlist.starting = s.starting := rfl
@[simp] theorem Part.startSetlist_tables (s : Part) : s.startSetlist.tables = s.tables := rfl
@[simp] theorem Part.startSetlist_stored (s : Part) : s.startSetlist.stored = s.stored := rfl
@[simp] theorem Part.startSetlist_links (s : Part) : s.startSetlist.links = s.links := rfl
@[simp] theorem Part.startSetlist_notes (s : Part) : s.startSetlist.notes = s.notes := rfl
@[simp] theorem Part.startSetlist_scene (s : Part) : s.startSetlist.scene = s.scene := rfl
@[simp] theorem Part.startSetlist_tempo (s : Part) : s.startSetlist.tempo = s.tempo := rfl
@[simp] theorem Part.startSetlist_click (s : Part) : s.startSetlist.click = s.click := rfl
@[simp] theorem Part.startSetlist_pedal (s : Part) : s.startSetlist.pedal = s.pedal := rfl
@[simp] theorem Part.startSetlist_watch (s : Part) : s.startSetlist.watch = s.watch := rfl
@[simp] theorem Part.startSetlist_console (s : Part) : s.startSetlist.console = s.console := rfl
@[simp] theorem Part.startSetlist_free (s : Part) : s.startSetlist.free = s.free := rfl

@[simp] theorem Part.shiftEntries_now (s : Part) : s.shiftEntries.now = s.now := rfl
@[simp] theorem Part.shiftEntries_starting (s : Part) : s.shiftEntries.starting = s.starting := rfl
@[simp] theorem Part.shiftEntries_tables (s : Part) : s.shiftEntries.tables = s.tables := rfl
@[simp] theorem Part.shiftEntries_stored (s : Part) : s.shiftEntries.stored = s.stored := rfl
@[simp] theorem Part.shiftEntries_links (s : Part) : s.shiftEntries.links = s.links := rfl
@[simp] theorem Part.shiftEntries_scene (s : Part) : s.shiftEntries.scene = s.scene := rfl
@[simp] theorem Part.shiftEntries_setlist (s : Part) : s.shiftEntries.setlist = s.setlist := rfl
@[simp] theorem Part.shiftEntries_tempo (s : Part) : s.shiftEntries.tempo = s.tempo := rfl
@[simp] theorem Part.shiftEntries_click (s : Part) : s.shiftEntries.click = s.click := rfl
@[simp] theorem Part.shiftEntries_pedal (s : Part) : s.shiftEntries.pedal = s.pedal := rfl
@[simp] theorem Part.shiftEntries_watch (s : Part) : s.shiftEntries.watch = s.watch := rfl
@[simp] theorem Part.shiftEntries_console (s : Part) : s.shiftEntries.console = s.console := rfl
@[simp] theorem Part.shiftEntries_free (s : Part) : s.shiftEntries.free = s.free := rfl

@[simp] theorem Part.shiftGenerations_now (s : Part) : s.shiftGenerations.now = s.now := rfl
@[simp] theorem Part.shiftGenerations_starting (s : Part) : s.shiftGenerations.starting = s.starting := rfl
@[simp] theorem Part.shiftGenerations_tables (s : Part) : s.shiftGenerations.tables = s.tables := rfl
@[simp] theorem Part.shiftGenerations_stored (s : Part) : s.shiftGenerations.stored = s.stored := rfl
@[simp] theorem Part.shiftGenerations_links (s : Part) : s.shiftGenerations.links = s.links := rfl
@[simp] theorem Part.shiftGenerations_notes (s : Part) : s.shiftGenerations.notes = s.notes := rfl
@[simp] theorem Part.shiftGenerations_setlist (s : Part) : s.shiftGenerations.setlist = s.setlist := rfl
@[simp] theorem Part.shiftGenerations_tempo (s : Part) : s.shiftGenerations.tempo = s.tempo := rfl
@[simp] theorem Part.shiftGenerations_click (s : Part) : s.shiftGenerations.click = s.click := rfl
@[simp] theorem Part.shiftGenerations_pedal (s : Part) : s.shiftGenerations.pedal = s.pedal := rfl
@[simp] theorem Part.shiftGenerations_watch (s : Part) : s.shiftGenerations.watch = s.watch := rfl
@[simp] theorem Part.shiftGenerations_console (s : Part) : s.shiftGenerations.console = s.console := rfl
@[simp] theorem Part.shiftGenerations_free (s : Part) : s.shiftGenerations.free = s.free := rfl

@[simp] theorem Part.firstScene_now (s : Part) : s.firstScene.now = s.now := rfl
@[simp] theorem Part.firstScene_starting (s : Part) : s.firstScene.starting = s.starting := rfl
@[simp] theorem Part.firstScene_tables (s : Part) : s.firstScene.tables = s.tables := rfl
@[simp] theorem Part.firstScene_stored (s : Part) : s.firstScene.stored = s.stored := rfl
@[simp] theorem Part.firstScene_links (s : Part) : s.firstScene.links = s.links := rfl
@[simp] theorem Part.firstScene_notes (s : Part) : s.firstScene.notes = s.notes := rfl
@[simp] theorem Part.firstScene_setlist (s : Part) : s.firstScene.setlist = s.setlist := rfl
@[simp] theorem Part.firstScene_tempo (s : Part) : s.firstScene.tempo = s.tempo := rfl
@[simp] theorem Part.firstScene_click (s : Part) : s.firstScene.click = s.click := rfl
@[simp] theorem Part.firstScene_pedal (s : Part) : s.firstScene.pedal = s.pedal := rfl
@[simp] theorem Part.firstScene_watch (s : Part) : s.firstScene.watch = s.watch := rfl
@[simp] theorem Part.firstScene_console (s : Part) : s.firstScene.console = s.console := rfl
@[simp] theorem Part.firstScene_free (s : Part) : s.firstScene.free = s.free := rfl

@[simp] theorem Part.markPresence_now (s : Part) (p : Port) : (s.markPresence p).now = s.now := rfl
@[simp] theorem Part.markPresence_starting (s : Part) (p : Port) : (s.markPresence p).starting = s.starting := rfl
@[simp] theorem Part.markPresence_tables (s : Part) (p : Port) : (s.markPresence p).tables = s.tables := rfl
@[simp] theorem Part.markPresence_stored (s : Part) (p : Port) : (s.markPresence p).stored = s.stored := rfl
@[simp] theorem Part.markPresence_links (s : Part) (p : Port) : (s.markPresence p).links = s.links := rfl
@[simp] theorem Part.markPresence_notes (s : Part) (p : Port) : (s.markPresence p).notes = s.notes := rfl
@[simp] theorem Part.markPresence_scene (s : Part) (p : Port) : (s.markPresence p).scene = s.scene := rfl
@[simp] theorem Part.markPresence_setlist (s : Part) (p : Port) : (s.markPresence p).setlist = s.setlist := rfl
@[simp] theorem Part.markPresence_tempo (s : Part) (p : Port) : (s.markPresence p).tempo = s.tempo := rfl
@[simp] theorem Part.markPresence_click (s : Part) (p : Port) : (s.markPresence p).click = s.click := rfl
@[simp] theorem Part.markPresence_pedal (s : Part) (p : Port) : (s.markPresence p).pedal = s.pedal := rfl
@[simp] theorem Part.markPresence_console (s : Part) (p : Port) : (s.markPresence p).console = s.console := rfl
@[simp] theorem Part.markPresence_free (s : Part) (p : Port) : (s.markPresence p).free = s.free := rfl

@[simp] theorem Part.startPresence_now (s : Part) (p : Port) : (s.startPresence p).now = s.now := rfl
@[simp] theorem Part.startPresence_starting (s : Part) (p : Port) : (s.startPresence p).starting = s.starting := rfl
@[simp] theorem Part.startPresence_tables (s : Part) (p : Port) : (s.startPresence p).tables = s.tables := rfl
@[simp] theorem Part.startPresence_stored (s : Part) (p : Port) : (s.startPresence p).stored = s.stored := rfl
@[simp] theorem Part.startPresence_links (s : Part) (p : Port) : (s.startPresence p).links = s.links := rfl
@[simp] theorem Part.startPresence_notes (s : Part) (p : Port) : (s.startPresence p).notes = s.notes := rfl
@[simp] theorem Part.startPresence_scene (s : Part) (p : Port) : (s.startPresence p).scene = s.scene := rfl
@[simp] theorem Part.startPresence_setlist (s : Part) (p : Port) : (s.startPresence p).setlist = s.setlist := rfl
@[simp] theorem Part.startPresence_tempo (s : Part) (p : Port) : (s.startPresence p).tempo = s.tempo := rfl
@[simp] theorem Part.startPresence_click (s : Part) (p : Port) : (s.startPresence p).click = s.click := rfl
@[simp] theorem Part.startPresence_pedal (s : Part) (p : Port) : (s.startPresence p).pedal = s.pedal := rfl
@[simp] theorem Part.startPresence_console (s : Part) (p : Port) : (s.startPresence p).console = s.console := rfl
@[simp] theorem Part.startPresence_free (s : Part) (p : Port) : (s.startPresence p).free = s.free := rfl

@[simp] theorem Part.filterLines_now (s : Part) (l : BitVec 8) : (s.filterLines l).now = s.now := rfl
@[simp] theorem Part.filterLines_starting (s : Part) (l : BitVec 8) : (s.filterLines l).starting = s.starting := rfl
@[simp] theorem Part.filterLines_tables (s : Part) (l : BitVec 8) : (s.filterLines l).tables = s.tables := rfl
@[simp] theorem Part.filterLines_stored (s : Part) (l : BitVec 8) : (s.filterLines l).stored = s.stored := rfl
@[simp] theorem Part.filterLines_links (s : Part) (l : BitVec 8) : (s.filterLines l).links = s.links := rfl
@[simp] theorem Part.filterLines_notes (s : Part) (l : BitVec 8) : (s.filterLines l).notes = s.notes := rfl
@[simp] theorem Part.filterLines_scene (s : Part) (l : BitVec 8) : (s.filterLines l).scene = s.scene := rfl
@[simp] theorem Part.filterLines_setlist (s : Part) (l : BitVec 8) : (s.filterLines l).setlist = s.setlist := rfl
@[simp] theorem Part.filterLines_tempo (s : Part) (l : BitVec 8) : (s.filterLines l).tempo = s.tempo := rfl
@[simp] theorem Part.filterLines_click (s : Part) (l : BitVec 8) : (s.filterLines l).click = s.click := rfl
@[simp] theorem Part.filterLines_watch (s : Part) (l : BitVec 8) : (s.filterLines l).watch = s.watch := rfl
@[simp] theorem Part.filterLines_console (s : Part) (l : BitVec 8) : (s.filterLines l).console = s.console := rfl
@[simp] theorem Part.filterLines_free (s : Part) (l : BitVec 8) : (s.filterLines l).free = s.free := rfl

@[simp] theorem Part.setArmed_now (s : Part) (i : Trigger) (b : Bool) : (s.setArmed i b).now = s.now := rfl
@[simp] theorem Part.setArmed_starting (s : Part) (i : Trigger) (b : Bool) : (s.setArmed i b).starting = s.starting := rfl
@[simp] theorem Part.setArmed_tables (s : Part) (i : Trigger) (b : Bool) : (s.setArmed i b).tables = s.tables := rfl
@[simp] theorem Part.setArmed_stored (s : Part) (i : Trigger) (b : Bool) : (s.setArmed i b).stored = s.stored := rfl
@[simp] theorem Part.setArmed_links (s : Part) (i : Trigger) (b : Bool) : (s.setArmed i b).links = s.links := rfl
@[simp] theorem Part.setArmed_notes (s : Part) (i : Trigger) (b : Bool) : (s.setArmed i b).notes = s.notes := rfl
@[simp] theorem Part.setArmed_scene (s : Part) (i : Trigger) (b : Bool) : (s.setArmed i b).scene = s.scene := rfl
@[simp] theorem Part.setArmed_setlist (s : Part) (i : Trigger) (b : Bool) : (s.setArmed i b).setlist = s.setlist := rfl
@[simp] theorem Part.setArmed_tempo (s : Part) (i : Trigger) (b : Bool) : (s.setArmed i b).tempo = s.tempo := rfl
@[simp] theorem Part.setArmed_click (s : Part) (i : Trigger) (b : Bool) : (s.setArmed i b).click = s.click := rfl
@[simp] theorem Part.setArmed_watch (s : Part) (i : Trigger) (b : Bool) : (s.setArmed i b).watch = s.watch := rfl
@[simp] theorem Part.setArmed_console (s : Part) (i : Trigger) (b : Bool) : (s.setArmed i b).console = s.console := rfl
@[simp] theorem Part.setArmed_free (s : Part) (i : Trigger) (b : Bool) : (s.setArmed i b).free = s.free := rfl

@[simp] theorem Part.setHeld_now (s : Part) (i : Trigger) (b : Bool) : (s.setHeld i b).now = s.now := rfl
@[simp] theorem Part.setHeld_starting (s : Part) (i : Trigger) (b : Bool) : (s.setHeld i b).starting = s.starting := rfl
@[simp] theorem Part.setHeld_tables (s : Part) (i : Trigger) (b : Bool) : (s.setHeld i b).tables = s.tables := rfl
@[simp] theorem Part.setHeld_stored (s : Part) (i : Trigger) (b : Bool) : (s.setHeld i b).stored = s.stored := rfl
@[simp] theorem Part.setHeld_links (s : Part) (i : Trigger) (b : Bool) : (s.setHeld i b).links = s.links := rfl
@[simp] theorem Part.setHeld_notes (s : Part) (i : Trigger) (b : Bool) : (s.setHeld i b).notes = s.notes := rfl
@[simp] theorem Part.setHeld_scene (s : Part) (i : Trigger) (b : Bool) : (s.setHeld i b).scene = s.scene := rfl
@[simp] theorem Part.setHeld_setlist (s : Part) (i : Trigger) (b : Bool) : (s.setHeld i b).setlist = s.setlist := rfl
@[simp] theorem Part.setHeld_tempo (s : Part) (i : Trigger) (b : Bool) : (s.setHeld i b).tempo = s.tempo := rfl
@[simp] theorem Part.setHeld_click (s : Part) (i : Trigger) (b : Bool) : (s.setHeld i b).click = s.click := rfl
@[simp] theorem Part.setHeld_watch (s : Part) (i : Trigger) (b : Bool) : (s.setHeld i b).watch = s.watch := rfl
@[simp] theorem Part.setHeld_console (s : Part) (i : Trigger) (b : Bool) : (s.setHeld i b).console = s.console := rfl
@[simp] theorem Part.setHeld_free (s : Part) (i : Trigger) (b : Bool) : (s.setHeld i b).free = s.free := rfl

@[simp] theorem Part.armAll_now (s : Part) : s.armAll.now = s.now := rfl
@[simp] theorem Part.armAll_starting (s : Part) : s.armAll.starting = s.starting := rfl
@[simp] theorem Part.armAll_tables (s : Part) : s.armAll.tables = s.tables := rfl
@[simp] theorem Part.armAll_stored (s : Part) : s.armAll.stored = s.stored := rfl
@[simp] theorem Part.armAll_links (s : Part) : s.armAll.links = s.links := rfl
@[simp] theorem Part.armAll_notes (s : Part) : s.armAll.notes = s.notes := rfl
@[simp] theorem Part.armAll_scene (s : Part) : s.armAll.scene = s.scene := rfl
@[simp] theorem Part.armAll_setlist (s : Part) : s.armAll.setlist = s.setlist := rfl
@[simp] theorem Part.armAll_tempo (s : Part) : s.armAll.tempo = s.tempo := rfl
@[simp] theorem Part.armAll_click (s : Part) : s.armAll.click = s.click := rfl
@[simp] theorem Part.armAll_watch (s : Part) : s.armAll.watch = s.watch := rfl
@[simp] theorem Part.armAll_console (s : Part) : s.armAll.console = s.console := rfl
@[simp] theorem Part.armAll_free (s : Part) : s.armAll.free = s.free := rfl

@[simp] theorem Part.passFrame_now (s : Part) (p : Port) (f : Frame) : (s.passFrame p f).now = s.now := rfl
@[simp] theorem Part.passFrame_starting (s : Part) (p : Port) (f : Frame) : (s.passFrame p f).starting = s.starting := rfl
@[simp] theorem Part.passFrame_tables (s : Part) (p : Port) (f : Frame) : (s.passFrame p f).tables = s.tables := rfl
@[simp] theorem Part.passFrame_stored (s : Part) (p : Port) (f : Frame) : (s.passFrame p f).stored = s.stored := rfl
@[simp] theorem Part.passFrame_notes (s : Part) (p : Port) (f : Frame) : (s.passFrame p f).notes = s.notes := rfl
@[simp] theorem Part.passFrame_scene (s : Part) (p : Port) (f : Frame) : (s.passFrame p f).scene = s.scene := rfl
@[simp] theorem Part.passFrame_setlist (s : Part) (p : Port) (f : Frame) : (s.passFrame p f).setlist = s.setlist := rfl
@[simp] theorem Part.passFrame_tempo (s : Part) (p : Port) (f : Frame) : (s.passFrame p f).tempo = s.tempo := rfl
@[simp] theorem Part.passFrame_click (s : Part) (p : Port) (f : Frame) : (s.passFrame p f).click = s.click := rfl
@[simp] theorem Part.passFrame_pedal (s : Part) (p : Port) (f : Frame) : (s.passFrame p f).pedal = s.pedal := rfl
@[simp] theorem Part.passFrame_watch (s : Part) (p : Port) (f : Frame) : (s.passFrame p f).watch = s.watch := rfl
@[simp] theorem Part.passFrame_console (s : Part) (p : Port) (f : Frame) : (s.passFrame p f).console = s.console := rfl
@[simp] theorem Part.passFrame_free (s : Part) (p : Port) (f : Frame) : (s.passFrame p f).free = s.free := rfl

@[simp] theorem Part.passIdent_now (s : Part) (p : Port) : (s.passIdent p).now = s.now := rfl
@[simp] theorem Part.passIdent_starting (s : Part) (p : Port) : (s.passIdent p).starting = s.starting := rfl
@[simp] theorem Part.passIdent_tables (s : Part) (p : Port) : (s.passIdent p).tables = s.tables := rfl
@[simp] theorem Part.passIdent_stored (s : Part) (p : Port) : (s.passIdent p).stored = s.stored := rfl
@[simp] theorem Part.passIdent_notes (s : Part) (p : Port) : (s.passIdent p).notes = s.notes := rfl
@[simp] theorem Part.passIdent_scene (s : Part) (p : Port) : (s.passIdent p).scene = s.scene := rfl
@[simp] theorem Part.passIdent_setlist (s : Part) (p : Port) : (s.passIdent p).setlist = s.setlist := rfl
@[simp] theorem Part.passIdent_tempo (s : Part) (p : Port) : (s.passIdent p).tempo = s.tempo := rfl
@[simp] theorem Part.passIdent_click (s : Part) (p : Port) : (s.passIdent p).click = s.click := rfl
@[simp] theorem Part.passIdent_pedal (s : Part) (p : Port) : (s.passIdent p).pedal = s.pedal := rfl
@[simp] theorem Part.passIdent_watch (s : Part) (p : Port) : (s.passIdent p).watch = s.watch := rfl
@[simp] theorem Part.passIdent_console (s : Part) (p : Port) : (s.passIdent p).console = s.console := rfl
@[simp] theorem Part.passIdent_free (s : Part) (p : Port) : (s.passIdent p).free = s.free := rfl

@[simp] theorem Part.enterDown_now (s : Part) (p : Port) : (s.enterDown p).now = s.now := rfl
@[simp] theorem Part.enterDown_starting (s : Part) (p : Port) : (s.enterDown p).starting = s.starting := rfl
@[simp] theorem Part.enterDown_tables (s : Part) (p : Port) : (s.enterDown p).tables = s.tables := rfl
@[simp] theorem Part.enterDown_stored (s : Part) (p : Port) : (s.enterDown p).stored = s.stored := rfl
@[simp] theorem Part.enterDown_notes (s : Part) (p : Port) : (s.enterDown p).notes = s.notes := rfl
@[simp] theorem Part.enterDown_scene (s : Part) (p : Port) : (s.enterDown p).scene = s.scene := rfl
@[simp] theorem Part.enterDown_setlist (s : Part) (p : Port) : (s.enterDown p).setlist = s.setlist := rfl
@[simp] theorem Part.enterDown_tempo (s : Part) (p : Port) : (s.enterDown p).tempo = s.tempo := rfl
@[simp] theorem Part.enterDown_click (s : Part) (p : Port) : (s.enterDown p).click = s.click := rfl
@[simp] theorem Part.enterDown_pedal (s : Part) (p : Port) : (s.enterDown p).pedal = s.pedal := rfl
@[simp] theorem Part.enterDown_watch (s : Part) (p : Port) : (s.enterDown p).watch = s.watch := rfl
@[simp] theorem Part.enterDown_console (s : Part) (p : Port) : (s.enterDown p).console = s.console := rfl
@[simp] theorem Part.enterDown_free (s : Part) (p : Port) : (s.enterDown p).free = s.free := rfl

@[simp] theorem Part.enterRefused_now (s : Part) (p : Port) : (s.enterRefused p).now = s.now := rfl
@[simp] theorem Part.enterRefused_starting (s : Part) (p : Port) : (s.enterRefused p).starting = s.starting := rfl
@[simp] theorem Part.enterRefused_tables (s : Part) (p : Port) : (s.enterRefused p).tables = s.tables := rfl
@[simp] theorem Part.enterRefused_stored (s : Part) (p : Port) : (s.enterRefused p).stored = s.stored := rfl
@[simp] theorem Part.enterRefused_notes (s : Part) (p : Port) : (s.enterRefused p).notes = s.notes := rfl
@[simp] theorem Part.enterRefused_scene (s : Part) (p : Port) : (s.enterRefused p).scene = s.scene := rfl
@[simp] theorem Part.enterRefused_setlist (s : Part) (p : Port) : (s.enterRefused p).setlist = s.setlist := rfl
@[simp] theorem Part.enterRefused_tempo (s : Part) (p : Port) : (s.enterRefused p).tempo = s.tempo := rfl
@[simp] theorem Part.enterRefused_click (s : Part) (p : Port) : (s.enterRefused p).click = s.click := rfl
@[simp] theorem Part.enterRefused_pedal (s : Part) (p : Port) : (s.enterRefused p).pedal = s.pedal := rfl
@[simp] theorem Part.enterRefused_watch (s : Part) (p : Port) : (s.enterRefused p).watch = s.watch := rfl
@[simp] theorem Part.enterRefused_console (s : Part) (p : Port) : (s.enterRefused p).console = s.console := rfl
@[simp] theorem Part.enterRefused_free (s : Part) (p : Port) : (s.enterRefused p).free = s.free := rfl

@[simp] theorem Part.countFault_now (s : Part) (p : Port) : (s.countFault p).now = s.now := rfl
@[simp] theorem Part.countFault_starting (s : Part) (p : Port) : (s.countFault p).starting = s.starting := rfl
@[simp] theorem Part.countFault_tables (s : Part) (p : Port) : (s.countFault p).tables = s.tables := rfl
@[simp] theorem Part.countFault_stored (s : Part) (p : Port) : (s.countFault p).stored = s.stored := rfl
@[simp] theorem Part.countFault_notes (s : Part) (p : Port) : (s.countFault p).notes = s.notes := rfl
@[simp] theorem Part.countFault_scene (s : Part) (p : Port) : (s.countFault p).scene = s.scene := rfl
@[simp] theorem Part.countFault_setlist (s : Part) (p : Port) : (s.countFault p).setlist = s.setlist := rfl
@[simp] theorem Part.countFault_tempo (s : Part) (p : Port) : (s.countFault p).tempo = s.tempo := rfl
@[simp] theorem Part.countFault_click (s : Part) (p : Port) : (s.countFault p).click = s.click := rfl
@[simp] theorem Part.countFault_pedal (s : Part) (p : Port) : (s.countFault p).pedal = s.pedal := rfl
@[simp] theorem Part.countFault_watch (s : Part) (p : Port) : (s.countFault p).watch = s.watch := rfl
@[simp] theorem Part.countFault_console (s : Part) (p : Port) : (s.countFault p).console = s.console := rfl
@[simp] theorem Part.countFault_free (s : Part) (p : Port) : (s.countFault p).free = s.free := rfl

@[simp] theorem Part.setPort_now (s : Part) (p : Port) (r : PortRecord) : (s.setPort p r).now = s.now := rfl
@[simp] theorem Part.setPort_starting (s : Part) (p : Port) (r : PortRecord) : (s.setPort p r).starting = s.starting := rfl
@[simp] theorem Part.setPort_stored (s : Part) (p : Port) (r : PortRecord) : (s.setPort p r).stored = s.stored := rfl
@[simp] theorem Part.setPort_links (s : Part) (p : Port) (r : PortRecord) : (s.setPort p r).links = s.links := rfl
@[simp] theorem Part.setPort_notes (s : Part) (p : Port) (r : PortRecord) : (s.setPort p r).notes = s.notes := rfl
@[simp] theorem Part.setPort_scene (s : Part) (p : Port) (r : PortRecord) : (s.setPort p r).scene = s.scene := rfl
@[simp] theorem Part.setPort_setlist (s : Part) (p : Port) (r : PortRecord) : (s.setPort p r).setlist = s.setlist := rfl
@[simp] theorem Part.setPort_tempo (s : Part) (p : Port) (r : PortRecord) : (s.setPort p r).tempo = s.tempo := rfl
@[simp] theorem Part.setPort_click (s : Part) (p : Port) (r : PortRecord) : (s.setPort p r).click = s.click := rfl
@[simp] theorem Part.setPort_pedal (s : Part) (p : Port) (r : PortRecord) : (s.setPort p r).pedal = s.pedal := rfl
@[simp] theorem Part.setPort_watch (s : Part) (p : Port) (r : PortRecord) : (s.setPort p r).watch = s.watch := rfl
@[simp] theorem Part.setPort_console (s : Part) (p : Port) (r : PortRecord) : (s.setPort p r).console = s.console := rfl
@[simp] theorem Part.setPort_free (s : Part) (p : Port) (r : PortRecord) : (s.setPort p r).free = s.free := rfl

@[simp] theorem Part.setLoad_now (s : Part) (l : Option Load) : (s.setLoad l).now = s.now := rfl
@[simp] theorem Part.setLoad_starting (s : Part) (l : Option Load) : (s.setLoad l).starting = s.starting := rfl
@[simp] theorem Part.setLoad_tables (s : Part) (l : Option Load) : (s.setLoad l).tables = s.tables := rfl
@[simp] theorem Part.setLoad_stored (s : Part) (l : Option Load) : (s.setLoad l).stored = s.stored := rfl
@[simp] theorem Part.setLoad_links (s : Part) (l : Option Load) : (s.setLoad l).links = s.links := rfl
@[simp] theorem Part.setLoad_notes (s : Part) (l : Option Load) : (s.setLoad l).notes = s.notes := rfl
@[simp] theorem Part.setLoad_scene (s : Part) (l : Option Load) : (s.setLoad l).scene = s.scene := rfl
@[simp] theorem Part.setLoad_setlist (s : Part) (l : Option Load) : (s.setLoad l).setlist = s.setlist := rfl
@[simp] theorem Part.setLoad_tempo (s : Part) (l : Option Load) : (s.setLoad l).tempo = s.tempo := rfl
@[simp] theorem Part.setLoad_click (s : Part) (l : Option Load) : (s.setLoad l).click = s.click := rfl
@[simp] theorem Part.setLoad_pedal (s : Part) (l : Option Load) : (s.setLoad l).pedal = s.pedal := rfl
@[simp] theorem Part.setLoad_watch (s : Part) (l : Option Load) : (s.setLoad l).watch = s.watch := rfl
@[simp] theorem Part.setLoad_free (s : Part) (l : Option Load) : (s.setLoad l).free = s.free := rfl

@[simp] theorem Part.setCommit_now (s : Part) (c : Option Commit) : (s.setCommit c).now = s.now := rfl
@[simp] theorem Part.setCommit_starting (s : Part) (c : Option Commit) : (s.setCommit c).starting = s.starting := rfl
@[simp] theorem Part.setCommit_tables (s : Part) (c : Option Commit) : (s.setCommit c).tables = s.tables := rfl
@[simp] theorem Part.setCommit_stored (s : Part) (c : Option Commit) : (s.setCommit c).stored = s.stored := rfl
@[simp] theorem Part.setCommit_links (s : Part) (c : Option Commit) : (s.setCommit c).links = s.links := rfl
@[simp] theorem Part.setCommit_notes (s : Part) (c : Option Commit) : (s.setCommit c).notes = s.notes := rfl
@[simp] theorem Part.setCommit_scene (s : Part) (c : Option Commit) : (s.setCommit c).scene = s.scene := rfl
@[simp] theorem Part.setCommit_setlist (s : Part) (c : Option Commit) : (s.setCommit c).setlist = s.setlist := rfl
@[simp] theorem Part.setCommit_tempo (s : Part) (c : Option Commit) : (s.setCommit c).tempo = s.tempo := rfl
@[simp] theorem Part.setCommit_click (s : Part) (c : Option Commit) : (s.setCommit c).click = s.click := rfl
@[simp] theorem Part.setCommit_pedal (s : Part) (c : Option Commit) : (s.setCommit c).pedal = s.pedal := rfl
@[simp] theorem Part.setCommit_watch (s : Part) (c : Option Commit) : (s.setCommit c).watch = s.watch := rfl
@[simp] theorem Part.setCommit_free (s : Part) (c : Option Commit) : (s.setCommit c).free = s.free := rfl

end Sys2Proof.Machine
end

