-- ==== Sys2Proof/Laws/Ops.lean ====
section
/-!
SUPPORT. What the shared operations of Sys2Proof/Machine/Operands.lean and Ops.lean do, said once for each.
-/

namespace Sys2Proof.Machine

/-! ### Numbers -/

theorem clamp_le {a b x : Nat} (h : a ≤ b) : clamp a b x ≤ b := by unfold clamp; repeat' (first | omega | split)

theorem le_clamp {a b x : Nat} (h : a ≤ b) : a ≤ clamp a b x := by unfold clamp; repeat' (first | omega | split)

theorem clamp_of_range {a b x : Nat} (ha : a ≤ x) (hb : x ≤ b) : clamp a b x = x := by
  unfold clamp; repeat' (first | omega | split)

theorem clampInt_le {a b x : Int} (h : a ≤ b) : clampInt a b x ≤ b := by
  unfold clampInt; repeat' (first | omega | split)

theorem le_clampInt {a b x : Int} (h : a ≤ b) : a ≤ clampInt a b x := by
  unfold clampInt; repeat' (first | omega | split)

theorem bump_le {top x : Nat} (h : x ≤ top) : bump top x ≤ top := by unfold bump; split <;> omega

theorem bump_of_lt {top x : Nat} (h : x < top) : bump top x = x + 1 := by simp [bump, h]

theorem tempoOfInterval_range (n avg : Nat) :
    Config.tempoLow ≤ tempoOfInterval n avg ∧ tempoOfInterval n avg ≤ Config.tempoHigh :=
  ⟨le_clamp (by decide), clamp_le (by decide)⟩

theorem portOf_val (p : Port) : portOf p.val = some p := by simp [portOf, p.isLt]

theorem mem_allPorts (p : Port) : p ∈ allPorts := by revert p; decide

theorem mem_allTriggers (i : Trigger) : i ∈ allTriggers := by revert i; decide

/-! ### One place of a vector -/

@[simp] theorem getElem_upd {α : Type} {n : Nat} (v : Vector α n) (i j : Fin n) (f : α → α) :
    (upd v i f)[j] = if i = j then f v[i] else v[j] := by
  simp only [upd, Fin.getElem_fin, Vector.getElem_set]
  by_cases h : i = j
  · simp [h]
  · have : i.val ≠ j.val := fun e => h (Fin.ext e)
    simp [h, this]

@[simp] theorem Part.link_updLink (s : Part) (p q : Port) (f : LinkPort → LinkPort) :
    (s.updLink p f).link q = if p = q then f (s.link p) else s.link q := getElem_upd _ _ _ _

@[simp] theorem Part.module_updModule (s : Part) (p q : Port) (f : Presence → Presence) :
    (s.updModule p f).module q = if p = q then f (s.module p) else s.module q := getElem_upd _ _ _ _

@[simp] theorem Part.substitute_setSubstitute (s : Part) (p q : Port) (b : Option Port) :
    (s.setSubstitute p b).substitute q = if p = q then b else s.substitute q := getElem_upd _ _ _ _

/-- What reads only the links agrees on parts with equal links. -/
theorem Part.link_congr {s t : Part} (h : t.links = s.links) (p : Port) : t.link p = s.link p := by
  simp [Part.link, h]

theorem Part.isUp_congr {s t : Part} (h : t.links = s.links) (p : Port) : t.isUp p = s.isUp p := by
  simp [Part.isUp, Part.link, h]

/-- What reads only table memory agrees on parts with equal tables. -/
theorem Part.role_congr {s t : Part} (h : t.tables = s.tables) (p : Port) : t.role p = s.role p := by
  simp [Part.role, Part.port, h]

theorem Part.moduleFields_congr {s t : Part} (h : t.tables = s.tables) (p : Port) :
    t.moduleFields p = s.moduleFields p := by
  simp [Part.moduleFields, Part.port, h]

/-! ### Time -/

@[simp] theorem Part.now_elapse (s : Part) (us : Nat) : (s.elapse us).now = s.now + us := rfl

theorem Part.now_elapseTo (s : Part) (t : Nat) : (s.elapseTo t).now = max s.now t := by
  simp only [Part.elapseTo, Part.now_elapse]; omega

theorem Part.elapse_zero (s : Part) : s.elapse 0 = s := by
  unfold Part.elapse
  by_cases h : s.accRuns <;> simp [h]

/-- Time passing changes TEMPO in its accumulator alone. -/
theorem Part.tempo_elapse (s : Part) (us : Nat) :
    (s.elapse us).tempo = { s.tempo with acc := (s.elapse us).tempo.acc } := rfl

theorem Part.acc_elapse (s : Part) (us : Nat) :
    (s.elapse us).tempo.acc = if s.accRuns then s.tempo.acc + us * Config.accUnit else s.tempo.acc := rfl

/-! ### Frames that are not delivered -/

/-- A frame taken by its role: everything `accept` can answer. -/
theorem Part.accept_cases (s : Part) (p : Port) (r : Role) (body : Part → Part) :
    ((s.link p).phase = .up ∧ s.role p = r ∧ s.accept p r body = body s) ∨
    (((s.link p).phase = .off ∨ (s.link p).phase = .down) ∧ s.accept p r body = s) ∨
    (((s.link p).phase = .ident ∨ (s.link p).phase = .refused ∨ ((s.link p).phase = .up ∧ s.role p ≠ r)) ∧
      s.accept p r body = s.countUnexpected p) := by
  unfold Part.accept
  cases h : (s.link p).phase <;> simp
  by_cases hr : s.role p = r <;> simp [hr]

theorem Part.accept_up {s : Part} {p : Port} {r : Role} (body : Part → Part) (h : (s.link p).phase = .up)
    (hr : s.role p = r) : s.accept p r body = body s := by simp [Part.accept, h, hr]

/-! ### Output queues -/

/-- Everything an offer without a flag can do: the item joins a queue with room, or nothing changes. -/
theorem Part.enqueue_cases (s : Part) (p : Port) (it : QueueItem) :
    ((s.link p).phase = .up ∧ (s.link p).queue.length < Config.queueDepth ∧
      s.enqueue p it = (s.updLink p fun l => { l with queue := l.queue ++ [it] }, true)) ∨
    (¬((s.link p).phase = .up ∧ (s.link p).queue.length < Config.queueDepth) ∧ s.enqueue p it = (s, false)) := by
  unfold Part.enqueue
  by_cases h : (s.link p).phase = .up ∧ (s.link p).queue.length < Config.queueDepth
  · exact .inl ⟨h.1, h.2, if_pos h⟩
  · exact .inr ⟨h, if_neg h⟩

/-! ### Commands -/

@[simp] theorem State.act_eq (s : State) (f : Part → Part) :
    s.act f = .next { part := f s.part, pending := s.pending } := rfl

end Sys2Proof.Machine
end

