-- ==== Sys2Proof/Laws/Offers.lean ====
section
/-!
SUPPORT. Offers, notices, replies and flags: everything they can do is said by one relation. The part afterwards is the
part before with frames at the young ends of queues that have room and with more flags raised.
-/

namespace Sys2Proof.Machine

/-- Raising a flag lowers none (R194). -/
theorem Flags.has_add (x : Flags) (f g : Flag) (h : x.has g = true) : (x.add f).has g = true := by
  cases f <;> cases g <;> first | exact h | rfl

/-- A raised flag is raised (R194). -/
theorem Flags.has_add_self (x : Flags) (f : Flag) : (x.add f).has f = true := by cases f <;> rfl

/-- `l'` is `l` with items at the young end of its queue; none where the port is not UP, and no queue grows past its
depth. Every item added satisfies `ok`. -/
def LinkPort.Fed (ok : QueueItem → Prop) (l l' : LinkPort) : Prop :=
  ∃ its, l' = { l with queue := l.queue ++ its } ∧ (∀ it ∈ its, ok it) ∧
    (its = [] ∨ (l.phase = .up ∧ l'.queue.length ≤ Config.queueDepth))

/-- What offers, notices, replies and flags can do to the part. -/
structure Part.Told (ok : QueueItem → Prop) (s t : Part) : Prop where
  links : ∀ p, LinkPort.Fed ok (s.link p) (t.link p)
  console : t.console = { s.console with flags := t.console.flags }
  flags : ∀ f, s.console.flags.has f = true → t.console.flags.has f = true
  rest : t = { s with links := t.links, console := t.console }

variable {ok : QueueItem → Prop}

theorem LinkPort.Fed.rfl' (l : LinkPort) : LinkPort.Fed ok l l := ⟨[], by simp, by simp, .inl rfl⟩

theorem LinkPort.Fed.trans {a b c : LinkPort} (h : LinkPort.Fed ok a b) (k : LinkPort.Fed ok b c) :
    LinkPort.Fed ok a c := by
  obtain ⟨xs, rfl, hx, hl⟩ := h
  obtain ⟨ys, rfl, hy, kl⟩ := k
  refine ⟨xs ++ ys, by simp, ?_, ?_⟩
  · intro it hit
    rcases List.mem_append.mp hit with h | h
    · exact hx it h
    · exact hy it h
  · rcases kl with rfl | ⟨hup, hlen⟩
    · simpa using hl
    · exact .inr ⟨hup, hlen⟩

theorem Part.Told.rfl' (s : Part) : Part.Told ok s s := ⟨fun _ => LinkPort.Fed.rfl' _, rfl, fun _ h => h, rfl⟩

theorem Part.Told.trans {a b c : Part} (h : Part.Told ok a b) (k : Part.Told ok b c) : Part.Told ok a c where
  links p := (h.links p).trans (k.links p)
  console := by rw [k.console, h.console]
  flags f hf := k.flags f (h.flags f hf)
  rest := by rw [k.rest, h.rest]

theorem Part.Told.phase {s t : Part} (h : Part.Told ok s t) (p : Port) : (t.link p).phase = (s.link p).phase := by
  obtain ⟨its, he, _⟩ := h.links p; rw [he]

theorem Part.Told.tables {s t : Part} (h : Part.Told ok s t) : t.tables = s.tables := by rw [h.rest]
theorem Part.Told.notes {s t : Part} (h : Part.Told ok s t) : t.notes = s.notes := by rw [h.rest]
theorem Part.Told.scene {s t : Part} (h : Part.Told ok s t) : t.scene = s.scene := by rw [h.rest]
theorem Part.Told.setlist {s t : Part} (h : Part.Told ok s t) : t.setlist = s.setlist := by rw [h.rest]
theorem Part.Told.tempo {s t : Part} (h : Part.Told ok s t) : t.tempo = s.tempo := by rw [h.rest]
theorem Part.Told.click {s t : Part} (h : Part.Told ok s t) : t.click = s.click := by rw [h.rest]
theorem Part.Told.pedal {s t : Part} (h : Part.Told ok s t) : t.pedal = s.pedal := by rw [h.rest]
theorem Part.Told.watch {s t : Part} (h : Part.Told ok s t) : t.watch = s.watch := by rw [h.rest]
theorem Part.Told.now {s t : Part} (h : Part.Told ok s t) : t.now = s.now := by rw [h.rest]
theorem Part.Told.starting {s t : Part} (h : Part.Told ok s t) : t.starting = s.starting := by rw [h.rest]
theorem Part.Told.stored {s t : Part} (h : Part.Told ok s t) : t.stored = s.stored := by rw [h.rest]
theorem Part.Told.free {s t : Part} (h : Part.Told ok s t) : t.free = s.free := by rw [h.rest]

/-- A fold of steps that are each told is told. -/
theorem Part.Told.foldl {α : Type} {f : Part → α → Part} (h : ∀ s x, Part.Told ok s (f s x)) (xs : List α) (s : Part) :
    Part.Told ok s (xs.foldl f s) := by
  induction xs generalizing s with
  | nil => exact .rfl' s
  | cons x xs ih => exact (h s x).trans (ih _)

theorem Part.told_enqueue (s : Part) (p : Port) (it : QueueItem) (h : ok it) : Part.Told ok s (s.enqueue p it).1 := by
  rcases s.enqueue_cases p it with ⟨hup, hlen, he⟩ | ⟨_, he⟩
  · rw [he]
    refine ⟨fun q => ?_, rfl, fun _ h => h, rfl⟩
    by_cases hq : p = q
    · subst hq
      exact ⟨[it], by simp, by simpa using h, .inr ⟨hup, by simpa using Nat.succ_le_of_lt hlen⟩⟩
    · simpa [hq] using LinkPort.Fed.rfl' (s.link q)
  · rw [he]; exact .rfl' s

/-- Every notice is an item that offers may add. -/
def AllowsNotices (ok : QueueItem → Prop) : Prop := ∀ k data, ok { frame := .notice k data, entry := none }

theorem Part.told_noticeQuiet (hn : AllowsNotices ok) (s : Part) (k : NoticeKind) (data : List Word) :
    Part.Told ok s (s.noticeQuiet k data) :=
  .foldl (fun t p => t.told_enqueue p _ (hn k data)) _ s

theorem Part.told_raiseWith {tell : Part → NoticeKind → List Word → Part}
    (h : ∀ s k d, Part.Told ok s (tell s k d)) (s : Part) (f : Flag) : Part.Told ok s (s.raiseWith tell f) := by
  unfold Part.raiseWith
  by_cases hf : s.console.flags.has f
  · simpa [hf] using Part.Told.rfl' s
  · simp only [hf]
    refine .trans ?_ (h _ _ _)
    exact ⟨fun p => LinkPort.Fed.rfl' _, rfl, fun g hg => s.console.flags.has_add f g hg, rfl⟩

theorem Part.told_raiseOverflow (hn : AllowsNotices ok) (s : Part) : Part.Told ok s s.raiseOverflow :=
  Part.told_raiseWith (Part.told_noticeQuiet hn) s _

/-- Everything an offer can do (R171). -/
theorem Part.told_offerItem (hn : AllowsNotices ok) (s : Part) (p : Port) (it : QueueItem) (h : ok it) :
    Part.Told ok s (s.offerItem p it).1 := by
  have ht := s.told_enqueue p it h
  unfold Part.offerItem
  rcases he : s.enqueue p it with ⟨t, b⟩
  rw [he] at ht
  cases b
  · by_cases hu : s.isUp p
    · simpa [hu] using ht.trans (t.told_raiseOverflow hn)
    · simpa [hu] using ht
  · exact ht

theorem Part.told_offer (hn : AllowsNotices ok) (s : Part) (p : Port) (f : Frame)
    (h : ok { frame := f, entry := none }) : Part.Told ok s (s.offer p f) := s.told_offerItem hn p _ h

/-- Everything a notice can do (R195). -/
theorem Part.told_notice (hn : AllowsNotices ok) (s : Part) (k : NoticeKind) (data : List Word) :
    Part.Told ok s (s.notice k data) :=
  .foldl (fun t p => t.told_offer hn p _ (hn k data)) _ s

/-- Everything a flag can do (R194). -/
theorem Part.told_raise (hn : AllowsNotices ok) (s : Part) (f : Flag) : Part.Told ok s (s.raise f) :=
  Part.told_raiseWith (Part.told_notice hn) s f

/-- Everything a reply can do (R179). -/
theorem Part.told_reply (hn : AllowsNotices ok) (s : Part) (p : Port) (kind : Nat) (tag : Byte) (r : Result)
    (data : List Word) (h : ok { frame := .reply kind tag.toNat r data, entry := none }) :
    Part.Told ok s (s.reply p kind tag r data) := s.told_offer hn p _ h

/-- A flag is raised after its event (R194). -/
theorem Part.has_raise (s : Part) (f : Flag) : (s.raise f).console.flags.has f = true := by
  unfold Part.raise Part.raiseWith
  by_cases hf : s.console.flags.has f
  · simp [hf]
  · simp only [hf]
    exact (Part.told_notice (ok := fun _ => True) (fun _ _ => trivial) _ _ _).flags f (Flags.has_add_self _ f)

/-- What offers, notices, replies and flags can do is what statements call reported. -/
theorem Part.Told.reported {s t : Part} (h : Part.Told ok s t) : Part.Reported s t := by
  refine ⟨?_, fun p => ?_, h.flags⟩
  · rw [h.rest, h.console]
  · obtain ⟨its, he, _, hl⟩ := h.links p
    refine ⟨by rw [he], ⟨its, by rw [he]⟩, fun hup => ?_⟩
    rcases hl with rfl | ⟨hu, _⟩
    · simpa using he
    · exact absurd hu hup

/-! ### What a queue with room takes -/

/-- A frame offered to a queue with room joins its young end, and nothing else changes (R171). -/
theorem Part.offer_room {s : Part} {p : Port} (f : Frame) (hup : (s.link p).phase = .up)
    (hroom : (s.link p).queue.length < Config.queueDepth) :
    s.offer p f = s.updLink p fun l => { l with queue := l.queue ++ [{ frame := f, entry := none }] } := by
  have : s.enqueue p { frame := f, entry := none } =
      (s.updLink p fun l => { l with queue := l.queue ++ [{ frame := f, entry := none }] }, true) :=
    if_pos ⟨hup, hroom⟩
  simp [Part.offer, Part.offerItem, this]

/-- A frame offered to a port out of UP is discarded, and no flag is raised (R171). -/
theorem Part.offer_notUp {s : Part} {p : Port} (f : Frame) (hup : (s.link p).phase ≠ .up) : s.offer p f = s := by
  have : s.enqueue p { frame := f, entry := none } = (s, false) := if_neg fun h => hup h.1
  simp [Part.offer, Part.offerItem, this, Part.isUp, hup]

/-! ### Clicks, cues, clock -/

variable {s : Part}

theorem Part.told_clickBands (hn : AllowsNotices ok)
    (hc : ∀ a b c, ok { frame := .click a b c, entry := none }) (s : Part) (accent : BandFields → Option Accent)
    (bar beat : Nat) : Part.Told ok s (s.clickBands accent bar beat) := by
  refine .foldl (fun t p => ?_) _ s
  split
  · exact .rfl' t
  · split
    · exact .rfl' t
    · split
      · exact .rfl' t
      · exact t.told_offer hn p _ (hc _ _ _)

theorem Part.told_cueBands (hn : AllowsNotices ok) (hc : ∀ a b, ok { frame := .cue a b, entry := none }) (s : Part)
    (start : Bool) (number : Nat) : Part.Told ok s (s.cueBands start number) :=
  .foldl (fun t p => t.told_offer hn p _ (hc _ _)) _ s

end Sys2Proof.Machine
end

