-- ==== Sys2Proof/Laws/Notes.lean ====
section
/-!
SUPPORT. What the operations on the note table do: each comes to a table and, where entries left, a PRIOR that is EMPTY
once none of them carries its number (`Part.withEntries`).
-/

namespace Sys2Proof.Machine

/-! ### Leaving the table (R25, R50) -/

/-- PRIOR is settled after a change of the table. -/
theorem Part.settlePrior_setEntries (s : Part) (es : List Entry) : (s.setEntries es).settlePrior = s.withEntries es := by
  unfold Part.settlePrior Part.withEntries Part.setEntries
  rcases h : s.scene.prior with _ | g
  · simp only
    cases s with
    | mk now starting tables stored links notes scene setlist tempo click pedal watch console free =>
      cases scene
      simp_all
  · by_cases k : es.any fun e => e.gen == g.number
    · simp only [k, if_true]
      cases s with
      | mk now starting tables stored links notes scene setlist tempo click pedal watch console free =>
        cases scene
        simp_all
    · simp [k]

theorem Part.keepEntries_eq (s : Part) (keep : Entry → Bool) :
    s.keepEntries keep = s.withEntries (s.notes.entries.filter keep) := s.settlePrior_setEntries _

theorem Part.deleteDeferred_eq (s : Part) (which : Entry → Bool) :
    s.deleteDeferred which = s.withEntries (s.notes.entries.filter fun e => !(e.isDeferred && which e)) :=
  s.keepEntries_eq _

theorem Part.removeDest_eq (s : Part) (p : Port) :
    s.removeDest p = s.withEntries (s.notes.entries.filter fun e => e.dest != p) := s.keepEntries_eq _

theorem Part.passUp_eq (s : Part) (e : Entry) :
    s.passUp e = s.withEntries (s.notes.entries.filter fun x => x.name != e.name) := s.keepEntries_eq _

/-- A second change of the table does not look at the first. -/
@[simp] theorem Part.withEntries_setEntries (s : Part) (es fs : List Entry) :
    (s.setEntries es).withEntries fs = s.withEntries fs := rfl

@[simp] theorem Part.entries_withEntries (s : Part) (es : List Entry) : (s.withEntries es).notes.entries = es := rfl

@[simp] theorem Part.entries_setEntries (s : Part) (es : List Entry) : (s.setEntries es).notes.entries = es := rfl

@[simp] theorem Part.links_withEntries (s : Part) (es : List Entry) : (s.withEntries es).links = s.links := rfl

@[simp] theorem Part.tables_withEntries (s : Part) (es : List Entry) : (s.withEntries es).tables = s.tables := rfl

@[simp] theorem Part.watch_withEntries (s : Part) (es : List Entry) : (s.withEntries es).watch = s.watch := rfl

@[simp] theorem Part.console_withEntries (s : Part) (es : List Entry) : (s.withEntries es).console = s.console := rfl

/-! ### Changing and releasing entries (R21) -/

theorem Part.entries_mapEntries (s : Part) (which : Entry → Bool) (f : Entry → Entry) :
    (s.mapEntries which f).notes.entries = s.notes.entries.map fun e => if which e then f e else e := rfl

theorem Part.releaseEntries_eq (s : Part) (cause : Cause) (which : Entry → Bool) :
    s.releaseEntries cause which = s.setEntries (s.notes.entries.map fun e =>
      if which e = true ∧ e.rings = true then { e with state := .owed cause 0 } else e) := by
  unfold Part.releaseEntries Part.mapEntries Entry.release
  congr 1
  refine List.map_congr_left fun e _ => ?_
  by_cases h : which e <;> by_cases k : e.rings <;> simp [h, k]

/-- The state of an entry is one of four, and the tests name it. -/
theorem Entry.cases (e : Entry) :
    (e.isDeferred = true ∧ e.isSounding = false ∧ e.isSustained = false ∧ e.isOwed = false ∧ e.rings = false) ∨
    (e.isDeferred = false ∧ e.isSounding = true ∧ e.isSustained = false ∧ e.isOwed = false ∧ e.rings = true) ∨
    (e.isDeferred = false ∧ e.isSounding = false ∧ e.isSustained = true ∧ e.isOwed = false ∧ e.rings = true) ∨
    (e.isDeferred = false ∧ e.isSounding = false ∧ e.isSustained = false ∧ e.isOwed = true ∧ e.rings = false) := by
  cases h : e.state <;>
    simp [Entry.isDeferred, Entry.isSounding, Entry.isSustained, Entry.isOwed, Entry.rings, h]

/-- A release changes the state of an entry alone. -/
theorem Entry.release_fields (cause : Cause) (r : Nat) (e : Entry) :
    e.release cause r = { e with state := (e.release cause r).state } := by
  unfold Entry.release; split <;> rfl

/-! ### Joining the table (R22, R23) -/

theorem Part.addEntry_eq (s : Part) (e : Entry) (h : e.counted = true) : s.addEntry e = s.withNewEntry e := by
  unfold Part.addEntry Part.withNewEntry Part.offerKept Part.updModule Part.kept
  simp [List.countP_append, h]

/-! ### Steals (R29) -/

/-- Everything a steal can do: nothing, a DEFERRED entry deleted, or a ringing one owed a release. -/
theorem Part.steal_cases (s : Part) (d : Port) (cause : Cause) :
    (s.victim d = none ∧ s.steal d cause = s) ∨
    ∃ v, s.victim d = some v ∧
      ((v.isDeferred = true ∧ s.steal d cause = s.withEntries (s.notes.entries.filter fun e => e.name != v.name)) ∨
       (v.isDeferred = false ∧ s.steal d cause = s.setEntries (s.notes.entries.map fun e =>
          if (e.name == v.name) = true ∧ e.rings = true then { e with state := .owed cause 0 } else e))) := by
  unfold Part.steal
  rcases h : s.victim d with _ | v
  · exact .inl ⟨rfl, rfl⟩
  · refine .inr ⟨v, rfl, ?_⟩
    by_cases k : v.isDeferred
    · exact .inl ⟨k, by simp only [k, if_true]; exact s.keepEntries_eq _⟩
    · exact .inr ⟨by simpa using k, by simp only [k]; exact s.releaseEntries_eq _ _⟩

/-- A victim is an entry of its port that is not owed. -/
theorem Part.victim_mem {s : Part} {d : Port} {v : Entry} (h : s.victim d = some v) :
    v ∈ s.notes.entries ∧ v.dest = d ∧ v.isOwed = false := by
  unfold Part.victim at h
  have key : ∀ f : Entry → Bool, (∀ e, f e = true → e.isOwed = false) →
      s.notes.entries.find? (fun e => e.dest == d && f e) = some v →
      v ∈ s.notes.entries ∧ v.dest = d ∧ v.isOwed = false := by
    intro f hf k
    have hm := List.mem_of_find?_eq_some k
    have hp := List.find?_some k
    simp only [Bool.and_eq_true, beq_iff_eq] at hp
    exact ⟨hm, hp.1, hf v hp.2⟩
  have c (e : Entry) := e.cases
  dsimp only at h
  split at h
  · rename_i e he
    cases h
    exact key _ (fun e k => by have := c e; simp_all) he
  · split at h
    · rename_i e he
      cases h
      exact key _ (fun e k => by have := c e; simp_all) he
    · split at h
      · rename_i e he
        cases h
        exact key _ (fun e k => by have := c e; simp_all) he
      · exact key _ (fun e k => by have := c e; simp_all) h

/-! ### Sustain (R34 to R36) -/

/-- A clearing is the clearing of NOTES' own part. -/
theorem Part.clearSustain_eq (s : Part) (p : Port) : s.clearSustain p = { s with notes := s.notes.cleared p } := by
  unfold Part.clearSustain NotesState.cleared
  have : (fun h : Option SustainHold => match h with
      | some h => some (if h.port = p then { h with disregarded := true } else h)
      | none => none) = fun h => h.map fun x => if x.port = p then { x with disregarded := true } else x := by
    funext h; cases h <;> rfl
  rw [← this] <;> rfl

/-- Everything a change of sustain parts can do: the parts change, and a state that goes from down to up lifts. -/
theorem Part.changeSustain_cases (s : Part) (p : Port) (f : NotesState → NotesState) :
    (s.sustainDown p = true ∧ ({ s with notes := f s.notes } : Part).sustainDown p = false ∧
      s.changeSustain p f = ({ s with notes := f s.notes } : Part).sustainLift p) ∨
    (¬(s.sustainDown p = true ∧ ({ s with notes := f s.notes } : Part).sustainDown p = false) ∧
      s.changeSustain p f = { s with notes := f s.notes }) := by
  unfold Part.changeSustain
  by_cases h : s.sustainDown p = true ∧ ({ s with notes := f s.notes } : Part).sustainDown p = false
  · exact .inl ⟨h.1, h.2, by simp [h.1, h.2]⟩
  · refine .inr ⟨h, ?_⟩
    have : (s.sustainDown p && !({ s with notes := f s.notes } : Part).sustainDown p) = false := by
      revert h
      cases s.sustainDown p <;> cases ({ s with notes := f s.notes } : Part).sustainDown p <;> simp
    simp [this]

end Sys2Proof.Machine
end

