-- ==== Sys2Proof/Laws/Tables.lean ====
section
/-!
SUPPORT. Table memory and the stored set: which operations leave them as they were. Only writing a record, the store
load, the end of a commit and device reset do not stand here (R184, R190).
-/

namespace Sys2Proof.Machine

/-- A fold of steps that each leave table memory and the stored set leaves them. -/
theorem Part.keeps_foldl {α : Type} {f : Part → α → Part}
    (h : ∀ s x, (f s x).tables = s.tables ∧ (f s x).stored = s.stored) (xs : List α) (s : Part) :
    (xs.foldl f s).tables = s.tables ∧ (xs.foldl f s).stored = s.stored := by
  induction xs generalizing s with
  | nil => exact ⟨rfl, rfl⟩
  | cons x xs ih => exact ⟨(ih _).1.trans (h s x).1, (ih _).2.trans (h s x).2⟩

@[simp] theorem Part.keeps_setTempo (s : Part) (f : TempoState → TempoState) :
    (s.setTempo f).tables = s.tables ∧ (s.setTempo f).stored = s.stored := ⟨rfl, rfl⟩


/-- Offers, notices, flags and replies. -/
theorem Part.Told.keeps {ok : QueueItem → Prop} {s t : Part} (h : Part.Told ok s t) :
    t.tables = s.tables ∧ t.stored = s.stored := ⟨h.tables, h.stored⟩

theorem allowsAll : AllowsNotices fun _ => True := fun _ _ => trivial

@[simp] theorem Part.keeps_notice (s : Part) (k : NoticeKind) (data : List Word) :
    (s.notice k data).tables = s.tables ∧ (s.notice k data).stored = s.stored := (s.told_notice allowsAll k data).keeps

@[simp] theorem Part.keeps_raise (s : Part) (f : Flag) :
    (s.raise f).tables = s.tables ∧ (s.raise f).stored = s.stored := (s.told_raise allowsAll f).keeps

@[simp] theorem Part.keeps_offerItem (s : Part) (p : Port) (it : QueueItem) :
    (s.offerItem p it).1.tables = s.tables ∧ (s.offerItem p it).1.stored = s.stored :=
  (s.told_offerItem allowsAll p it trivial).keeps

@[simp] theorem Part.keeps_offer (s : Part) (p : Port) (f : Frame) :
    (s.offer p f).tables = s.tables ∧ (s.offer p f).stored = s.stored := (s.told_offer allowsAll p f trivial).keeps

@[simp] theorem Part.keeps_reply (s : Part) (p : Port) (kind : Nat) (tag : Byte) (r : Result) (data : List Word) :
    (s.reply p kind tag r data).tables = s.tables ∧ (s.reply p kind tag r data).stored = s.stored :=
  (s.told_reply allowsAll p kind tag r data trivial).keeps

/-! ### Click -/

@[simp] theorem Part.keeps_clickBands (s : Part) (accent : BandFields → Option Accent) (bar beat : Nat) :
    (s.clickBands accent bar beat).tables = s.tables ∧ (s.clickBands accent bar beat).stored = s.stored :=
  (s.told_clickBands allowsAll (fun _ _ _ => trivial) accent bar beat).keeps

@[simp] theorem Part.keeps_clickBeat (s : Part) :
    (s.clickBeat).tables = s.tables ∧ (s.clickBeat).stored = s.stored := by simp [Part.clickBeat]

@[simp] theorem Part.keeps_clickSub (s : Part) :
    (s.clickSub).tables = s.tables ∧ (s.clickSub).stored = s.stored := by simp [Part.clickSub]

@[simp] theorem Part.keeps_clickCount (s : Part) (c : CountState) :
    (s.clickCount c).tables = s.tables ∧ (s.clickCount c).stored = s.stored := by simp [Part.clickCount]

@[simp] theorem Part.keeps_cueBands (s : Part) (start : Bool) (number : Nat) :
    (s.cueBands start number).tables = s.tables ∧ (s.cueBands start number).stored = s.stored := 
  Part.keeps_foldl (fun t x => by simp) _ s

@[simp] theorem Part.keeps_stopCue (s : Part) :
    (s.stopCue).tables = s.tables ∧ (s.stopCue).stored = s.stored := by
  unfold Part.stopCue; split <;> simp

@[simp] theorem Part.keeps_startCue (s : Part) (number width : Nat) :
    (s.startCue number width).tables = s.tables ∧ (s.startCue number width).stored = s.stored := by simp [Part.startCue]

@[simp] theorem Part.keeps_setStarted (s : Part) (p : Port) (b : Bool) :
    (s.setStarted p b).tables = s.tables ∧ (s.setStarted p b).stored = s.stored := ⟨rfl, rfl⟩

@[simp] theorem Part.keeps_startPort (s : Part) (p : Port) :
    (s.startPort p).tables = s.tables ∧ (s.startPort p).stored = s.stored := by simp [Part.startPort]

@[simp] theorem Part.keeps_clickRunning (s : Part) :
    (s.clickRunning).tables = s.tables ∧ (s.clickRunning).stored = s.stored := 
  Part.keeps_foldl (fun t x => by simp) _ s

@[simp] theorem Part.keeps_clickStopped (s : Part) :
    (s.clickStopped).tables = s.tables ∧ (s.clickStopped).stored = s.stored := by
  unfold Part.clickStopped
  simp only [Part.keeps_stopCue]
  exact Part.keeps_foldl (fun t p => by simp) _ s

@[simp] theorem Part.keeps_clockPort (s : Part) (p : Port) :
    (s.clockPort p).tables = s.tables ∧ (s.clockPort p).stored = s.stored := by
  unfold Part.clockPort; split <;> simp

@[simp] theorem Part.keeps_clockModules (s : Part) :
    (s.clockModules).tables = s.tables ∧ (s.clockModules).stored = s.stored := 
  Part.keeps_foldl (fun t x => by simp) _ s

@[simp] theorem Part.keeps_clickTick (s : Part) :
    (s.clickTick).tables = s.tables ∧ (s.clickTick).stored = s.stored := by
  unfold Part.clickTick; split <;> simp

@[simp] theorem Part.keeps_setHeldMute (s : Part) (i : Trigger) (b : Bool) :
    (s.setHeldMute i b).tables = s.tables ∧ (s.setHeldMute i b).stored = s.stored := ⟨rfl, rfl⟩

@[simp] theorem Part.keeps_setCueMute (s : Part) (b : Bool) :
    (s.setCueMute b).tables = s.tables ∧ (s.setCueMute b).stored = s.stored := ⟨rfl, rfl⟩

@[simp] theorem Part.keeps_resetClick (s : Part) :
    (s.resetClick).tables = s.tables ∧ (s.resetClick).stored = s.stored := by simp [Part.resetClick]

/-! ### Notes -/

@[simp] theorem Part.keeps_setEntries (s : Part) (es : List Entry) :
    (s.setEntries es).tables = s.tables ∧ (s.setEntries es).stored = s.stored := ⟨rfl, rfl⟩

@[simp] theorem Part.keeps_offerKept (s : Part) (p : Port) :
    (s.offerKept p).tables = s.tables ∧ (s.offerKept p).stored = s.stored := ⟨rfl, rfl⟩

@[simp] theorem Part.keeps_settlePrior (s : Part) :
    (s.settlePrior).tables = s.tables ∧ (s.settlePrior).stored = s.stored := by
  unfold Part.settlePrior; (repeat' split) <;> simp

@[simp] theorem Part.keeps_keepEntries (s : Part) (keep : Entry → Bool) :
    (s.keepEntries keep).tables = s.tables ∧ (s.keepEntries keep).stored = s.stored := by simp [Part.keepEntries]

@[simp] theorem Part.keeps_releaseEntries (s : Part) (cause : Cause) (which : Entry → Bool) :
    (s.releaseEntries cause which).tables = s.tables ∧ (s.releaseEntries cause which).stored = s.stored := ⟨rfl, rfl⟩

@[simp] theorem Part.keeps_deleteDeferred (s : Part) (which : Entry → Bool) :
    (s.deleteDeferred which).tables = s.tables ∧ (s.deleteDeferred which).stored = s.stored := by simp [Part.deleteDeferred]

@[simp] theorem Part.keeps_addEntry (s : Part) (e : Entry) :
    (s.addEntry e).tables = s.tables ∧ (s.addEntry e).stored = s.stored := ⟨rfl, rfl⟩

@[simp] theorem Part.keeps_createSounding (s : Part) (e : Entry) :
    (s.createSounding e).tables = s.tables ∧ (s.createSounding e).stored = s.stored := by
  unfold Part.createSounding
  have h := s.keeps_offerItem e.dest e.downItem
  rcases k : s.offerItem e.dest e.downItem with ⟨t, b⟩
  rw [k] at h
  cases b
  · exact h
  · dsimp only
    split <;> simpa using h

@[simp] theorem Part.keeps_deferOverflow (s : Part) (d : Port) :
    (s.deferOverflow d).tables = s.tables ∧ (s.deferOverflow d).stored = s.stored := by
  unfold Part.deferOverflow; split <;> simp

@[simp] theorem Part.keeps_createDeferred (s : Part) (e : Entry) :
    (s.createDeferred e).tables = s.tables ∧ (s.createDeferred e).stored = s.stored := by
  unfold Part.createDeferred; split <;> simp

@[simp] theorem Part.keeps_retrigger (s : Part) (p : Port) (k : Nat) :
    (s.retrigger p k).tables = s.tables ∧ (s.retrigger p k).stored = s.stored := by simp [Part.retrigger]

@[simp] theorem Part.keeps_collide (s : Part) (d : Port) (slot key : Nat) :
    (s.collide d slot key).tables = s.tables ∧ (s.collide d slot key).stored = s.stored := by simp [Part.collide]

@[simp] theorem Part.keeps_steal (s : Part) (d : Port) (cause : Cause) :
    (s.steal d cause).tables = s.tables ∧ (s.steal d cause).stored = s.stored := by
  unfold Part.steal; (repeat' split) <;> simp

@[simp] theorem Part.keeps_budgetStep (s : Part) (d : Port) :
    (s.budgetStep d).tables = s.tables ∧ (s.budgetStep d).stored = s.stored := by
  unfold Part.budgetStep; split <;> simp

@[simp] theorem Part.keeps_createItem (s : Part) (p : Port) (k : Nat) (it : ResultItem) :
    (s.createItem p k it).tables = s.tables ∧ (s.createItem p k it).stored = s.stored := by
  unfold Part.createItem; (repeat' split) <;> simp

@[simp] theorem Part.keeps_takeItem (s : Part) (p : Port) (k : Nat) (it : ResultItem) :
    (s.takeItem p k it).tables = s.tables ∧ (s.takeItem p k it).stored = s.stored := by
  unfold Part.takeItem; dsimp only; split <;> simp

@[simp] theorem Part.keeps_takeItems (s : Part) (p : Port) (k : Nat) (its : List ResultItem)
    (seen : List (Port × Nat × Nat)) :
    (s.takeItems p k its seen).tables = s.tables ∧ (s.takeItems p k its seen).stored = s.stored := by
  induction its generalizing s seen with
  | nil => exact ⟨rfl, rfl⟩
  | cons it rest ih => unfold Part.takeItems; split <;> simp [ih]

@[simp] theorem Part.keeps_noteDown (s : Part) (p : Port) (k : Nat) (items : List ResultItem) :
    (s.noteDown p k items).tables = s.tables ∧ (s.noteDown p k items).stored = s.stored := by simp [Part.noteDown]

@[simp] theorem Part.keeps_sustainLift (s : Part) (p : Port) :
    (s.sustainLift p).tables = s.tables ∧ (s.sustainLift p).stored = s.stored := ⟨rfl, rfl⟩

@[simp] theorem Part.keeps_changeSustain (s : Part) (p : Port) (f : NotesState → NotesState) :
    (s.changeSustain p f).tables = s.tables ∧ (s.changeSustain p f).stored = s.stored := by
  unfold Part.changeSustain; dsimp only; split <;> simp

@[simp] theorem Part.keeps_sustainEvent (s : Part) (p : Port) (v : Nat) :
    (s.sustainEvent p v).tables = s.tables ∧ (s.sustainEvent p v).stored = s.stored := by simp [Part.sustainEvent]

@[simp] theorem Part.keeps_sustainHold (s : Part) (i : Trigger) (p : Port) :
    (s.sustainHold i p).tables = s.tables ∧ (s.sustainHold i p).stored = s.stored := by simp [Part.sustainHold]

@[simp] theorem Part.keeps_sustainRelease (s : Part) (i : Trigger) :
    (s.sustainRelease i).tables = s.tables ∧ (s.sustainRelease i).stored = s.stored := by
  unfold Part.sustainRelease; split <;> simp

@[simp] theorem Part.keeps_clearSustain (s : Part) (p : Port) :
    (s.clearSustain p).tables = s.tables ∧ (s.clearSustain p).stored = s.stored := ⟨rfl, rfl⟩

@[simp] theorem Part.keeps_clearSustains (s : Part) :
    (s.clearSustains).tables = s.tables ∧ (s.clearSustains).stored = s.stored := 
  Part.keeps_foldl (fun t x => by simp) _ s

@[simp] theorem Part.keeps_freshSustain (s : Part) (p : Port) :
    (s.freshSustain p).tables = s.tables ∧ (s.freshSustain p).stored = s.stored := ⟨rfl, rfl⟩

@[simp] theorem Part.keeps_noteUp (s : Part) (p : Port) (k r : Nat) :
    (s.noteUp p k r).tables = s.tables ∧ (s.noteUp p k r).stored = s.stored := by simp [Part.noteUp]

@[simp] theorem Part.keeps_releaseAll (s : Part) (cause : Cause) :
    (s.releaseAll cause).tables = s.tables ∧ (s.releaseAll cause).stored = s.stored := by simp [Part.releaseAll]

@[simp] theorem Part.keeps_panic (s : Part) :
    (s.panic).tables = s.tables ∧ (s.panic).stored = s.stored := by simp [Part.panic]

@[simp] theorem Part.keeps_sourceLost (s : Part) (p : Port) :
    (s.sourceLost p).tables = s.tables ∧ (s.sourceLost p).stored = s.stored := by simp [Part.sourceLost]

@[simp] theorem Part.keeps_removeDest (s : Part) (p : Port) :
    (s.removeDest p).tables = s.tables ∧ (s.removeDest p).stored = s.stored := by simp [Part.removeDest]

@[simp] theorem Part.keeps_cuts (s : Part) (p : Port) (n : Nat) :
    (s.cuts p n).tables = s.tables ∧ (s.cuts p n).stored = s.stored := by
  induction n generalizing s with
  | zero => exact ⟨rfl, rfl⟩
  | succ n ih => unfold Part.cuts; simp [ih]

@[simp] theorem Part.keeps_budgetCut (s : Part) (p : Port) (budget : Nat) :
    (s.budgetCut p budget).tables = s.tables ∧ (s.budgetCut p budget).stored = s.stored := by
  unfold Part.budgetCut; split <;> simp

@[simp] theorem Part.keeps_sendEntry (s : Part) (name : Nat) :
    (s.sendEntry name).tables = s.tables ∧ (s.sendEntry name).stored = s.stored := by
  unfold Part.sendEntry
  split
  · exact ⟨rfl, rfl⟩
  · rename_i e _
    have h := (s.releaseEntries .collision fun x => x.plays e.dest e.slot e.key).keeps_offerItem e.dest e.downItem
    dsimp only
    rcases k : (s.releaseEntries .collision fun x => x.plays e.dest e.slot e.key).offerItem e.dest e.downItem with ⟨t, b⟩
    rw [k] at h
    cases b <;> simpa using h

@[simp] theorem Part.keeps_sendDeferred (s : Part) (p : Port) :
    (s.sendDeferred p).tables = s.tables ∧ (s.sendDeferred p).stored = s.stored :=
  Part.keeps_foldl (fun t n => t.keeps_sendEntry n) _ s

@[simp] theorem Part.keeps_restrikeCopies (s : Part) (b : Port) (es : List Entry) :
    (s.restrikeCopies b es).tables = s.tables ∧ (s.restrikeCopies b es).stored = s.stored := by
  induction es generalizing s with
  | nil => exact ⟨rfl, rfl⟩
  | cons e rest ih => unfold Part.restrikeCopies; dsimp only; (repeat' split) <;> simp [ih]

@[simp] theorem Part.keeps_restrike (s : Part) (x b : Port) :
    (s.restrike x b).tables = s.tables ∧ (s.restrike x b).stored = s.stored := by simp [Part.restrike]

@[simp] theorem Part.keeps_moveEntry (b : Port) (s : Part) (name : Nat) :
    (Part.moveEntry b s name).tables = s.tables ∧ (Part.moveEntry b s name).stored = s.stored := by
  unfold Part.moveEntry; dsimp only; (repeat' split) <;> simp

@[simp] theorem Part.keeps_moves (b : Port) (s : Part) (names : List Nat) :
    (names.foldl (Part.moveEntry b) s).tables = s.tables ∧ (names.foldl (Part.moveEntry b) s).stored = s.stored :=
  Part.keeps_foldl (fun t n => t.keeps_moveEntry b n) names s

@[simp] theorem Part.keeps_sends (s : Part) (names : List Nat) :
    (names.foldl Part.sendEntry s).tables = s.tables ∧ (names.foldl Part.sendEntry s).stored = s.stored :=
  Part.keeps_foldl (fun t n => t.keeps_sendEntry n) names s

@[simp] theorem Part.keeps_moveAndRelease (s : Part) (x : Port) (sub : Option Port) :
    (s.moveAndRelease x sub).tables = s.tables ∧ (s.moveAndRelease x sub).stored = s.stored := by
  unfold Part.moveAndRelease; dsimp only; (repeat' split) <;> simp

@[simp] theorem Part.keeps_passUp (s : Part) (e : Entry) :
    (s.passUp e).tables = s.tables ∧ (s.passUp e).stored = s.stored := by simp [Part.passUp]

@[simp] theorem Part.keeps_clearPending (s : Part) (it : QueueItem) :
    (s.clearPending it).tables = s.tables ∧ (s.clearPending it).stored = s.stored := by
  unfold Part.clearPending; split <;> simp

@[simp] theorem Part.keeps_withdraw (s : Part) (p : Port) :
    (s.withdraw p).tables = s.tables ∧ (s.withdraw p).stored = s.stored :=
  Part.keeps_foldl (fun t it => t.keeps_clearPending it) _ _

/-! ### Zone -/

@[simp] theorem Part.keeps_zoneKeyDown (s : Part) (p : Port) (key strike : Nat) :
    (s.zoneKeyDown p key strike).tables = s.tables ∧ (s.zoneKeyDown p key strike).stored = s.stored := by simp [Part.zoneKeyDown]

@[simp] theorem Part.keeps_zonePressure (s : Part) (p : Port) (key v : Nat) :
    (s.zonePressure p key v).tables = s.tables ∧ (s.zonePressure p key v).stored = s.stored := 
  Part.keeps_foldl (fun t x => by simp) _ s

@[simp] theorem Part.keeps_zoneControl (s : Part) (p : Port) (n v : Nat) :
    (s.zoneControl p n v).tables = s.tables ∧ (s.zoneControl p n v).stored = s.stored := 
  Part.keeps_foldl (fun t x => by simp) _ s

/-! ### Scene -/

@[simp] theorem Part.keeps_setSettle (s : Part) (p : Port) (v : Option Settle) :
    (s.setSettle p v).tables = s.tables ∧ (s.setSettle p v).stored = s.stored := ⟨rfl, rfl⟩

@[simp] theorem Part.keeps_beginSettle (s : Part) (p : Port) :
    (s.beginSettle p).tables = s.tables ∧ (s.beginSettle p).stored = s.stored := ⟨rfl, rfl⟩

@[simp] theorem Part.keeps_abandonSettle (s : Part) (p : Port) :
    (s.abandonSettle p).tables = s.tables ∧ (s.abandonSettle p).stored = s.stored := ⟨rfl, rfl⟩

@[simp] theorem Part.keeps_endSettle (s : Part) (p : Port) :
    (s.endSettle p).tables = s.tables ∧ (s.endSettle p).stored = s.stored := by simp [Part.endSettle]

@[simp] theorem Part.keeps_settleReport (s : Part) (p : Port) (ready : Bool) :
    (s.settleReport p ready).tables = s.tables ∧ (s.settleReport p ready).stored = s.stored := by
  unfold Part.settleReport; (repeat' split) <;> simp

@[simp] theorem Part.keeps_expireSettle (s : Part) (p : Port) :
    (s.expireSettle p).tables = s.tables ∧ (s.expireSettle p).stored = s.stored := by simp [Part.expireSettle]

@[simp] theorem Part.keeps_sendPreset (s : Part) (d : Port) (e : PresetEntry) :
    (s.sendPreset d e).tables = s.tables ∧ (s.sendPreset d e).stored = s.stored := by simp [Part.sendPreset]

@[simp] theorem Part.keeps_presetSend (s : Part) (m n : Port) :
    (s.presetSend m n).tables = s.tables ∧ (s.presetSend m n).stored = s.stored := 
  Part.keeps_foldl (fun t x => by simp) _ s

@[simp] theorem Part.keeps_resolvePresets (s : Part) :
    (s.resolvePresets).tables = s.tables ∧ (s.resolvePresets).stored = s.stored :=
  Part.keeps_foldl (fun t e => by split <;> simp) _ s

@[simp] theorem Part.keeps_freshSettle (s : Part) (p : Port) :
    (s.freshSettle p).tables = s.tables ∧ (s.freshSettle p).stored = s.stored := ⟨rfl, rfl⟩

/-! ### Watch -/

@[simp] theorem Part.keeps_moduleNotice (s : Part) (p : Port) (old : PresenceState) :
    (s.moduleNotice p old).tables = s.tables ∧ (s.moduleNotice p old).stored = s.stored := by simp [Part.moduleNotice]

@[simp] theorem Part.keeps_recordBackup (s : Part) (x : Port) :
    (s.recordBackup x).tables = s.tables ∧ (s.recordBackup x).stored = s.stored := by
  unfold Part.recordBackup; (repeat' split) <;> simp

@[simp] theorem Part.keeps_standIn (s : Part) (b : Port) (send : Bool) :
    (s.standIn b send).tables = s.tables ∧ (s.standIn b send).stored = s.stored := 
  Part.keeps_foldl (fun t x => by dsimp only; (repeat' split) <;> simp) _ s

@[simp] theorem Part.keeps_dropSubstitute (s : Part) (x : Port) :
    (s.dropSubstitute x).tables = s.tables ∧ (s.dropSubstitute x).stored = s.stored := ⟨rfl, rfl⟩

@[simp] theorem Part.keeps_latch (s : Part) (x : Port) (r : Reason) :
    (s.latch x r).tables = s.tables ∧ (s.latch x r).stored = s.stored := by
  unfold Part.latch; split <;> simp

@[simp] theorem Part.keeps_failover (s : Part) (x : Port) :
    (s.failover x).tables = s.tables ∧ (s.failover x).stored = s.stored := by
  unfold Part.failover; dsimp only; (repeat' split) <;> simp

@[simp] theorem Part.keeps_depart (s : Part) (x : Port) (r : Reason) :
    (s.depart x r).tables = s.tables ∧ (s.depart x r).stored = s.stored := by
  unfold Part.depart; dsimp only; (repeat' split) <;> simp

@[simp] theorem Part.keeps_backToOut (s : Part) (x : Port) (r : Reason) :
    (s.backToOut x r).tables = s.tables ∧ (s.backToOut x r).stored = s.stored := by simp [Part.backToOut]

@[simp] theorem Part.keeps_raiseReason (s : Part) (x : Port) (r : Reason) :
    (s.raiseReason x r).tables = s.tables ∧ (s.raiseReason x r).stored = s.stored := by
  unfold Part.raiseReason; split <;> simp

@[simp] theorem Part.keeps_dropReasons (s : Part) (x : Port) (f : Reasons → Reasons) :
    (s.dropReasons x f).tables = s.tables ∧ (s.dropReasons x f).stored = s.stored := by
  unfold Part.dropReasons; dsimp only; (repeat' split) <;> simp

@[simp] theorem Part.keeps_returnActive (s : Part) (x : Port) (atScene : Bool) :
    (s.returnActive x atScene).tables = s.tables ∧ (s.returnActive x atScene).stored = s.stored := by
  unfold Part.returnActive; split <;> simp

@[simp] theorem Part.keeps_enterWaiting (s : Part) (x : Port) :
    (s.enterWaiting x).tables = s.tables ∧ (s.enterWaiting x).stored = s.stored := by
  unfold Part.enterWaiting; split <;> simp

@[simp] theorem Part.keeps_enterCooldown (s : Part) (x : Port) :
    (s.enterCooldown x).tables = s.tables ∧ (s.enterCooldown x).stored = s.stored := by
  unfold Part.enterCooldown; dsimp only; split <;> simp

@[simp] theorem Part.keeps_recover (s : Part) (x : Port) :
    (s.recover x).tables = s.tables ∧ (s.recover x).stored = s.stored := by
  unfold Part.recover; dsimp only; split <;> simp

@[simp] theorem Part.keeps_sceneReturns (s : Part) (isSong : Bool) :
    (s.sceneReturns isSong).tables = s.tables ∧ (s.sceneReturns isSong).stored = s.stored := 
  Part.keeps_foldl (fun t x => by dsimp only; (repeat' split) <;> simp) _ s

@[simp] theorem Part.keeps_markPresence (s : Part) (x : Port) :
    (s.markPresence x).tables = s.tables ∧ (s.markPresence x).stored = s.stored := ⟨rfl, rfl⟩

@[simp] theorem Part.keeps_startPresence (s : Part) (x : Port) :
    (s.startPresence x).tables = s.tables ∧ (s.startPresence x).stored = s.stored := ⟨rfl, rfl⟩

@[simp] theorem Part.keeps_restartPresence (s : Part) (x : Port) :
    (s.restartPresence x).tables = s.tables ∧ (s.restartPresence x).stored = s.stored := by
  unfold Part.restartPresence; split <;> simp

@[simp] theorem Part.keeps_becomeActive (s : Part) (x : Port) (ready : Bool) :
    (s.becomeActive x ready).tables = s.tables ∧ (s.becomeActive x ready).stored = s.stored := by simp [Part.becomeActive]

@[simp] theorem Part.keeps_goodPresence (s : Part) (x : Port) (ready : Bool) :
    (s.goodPresence x ready).tables = s.tables ∧ (s.goodPresence x ready).stored = s.stored := by
  unfold Part.goodPresence; (repeat' split) <;> simp

@[simp] theorem Part.keeps_presenceFrame (s : Part) (x : Port) (st : Status) :
    (s.presenceFrame x st).tables = s.tables ∧ (s.presenceFrame x st).stored = s.stored := by
  unfold Part.presenceFrame; split <;> simp

@[simp] theorem Part.keeps_moduleLinkLost (s : Part) (x : Port) :
    (s.moduleLinkLost x).tables = s.tables ∧ (s.moduleLinkLost x).stored = s.stored := by simp [Part.moduleLinkLost]

@[simp] theorem Part.keeps_moduleLinkUp (s : Part) (x : Port) :
    (s.moduleLinkUp x).tables = s.tables ∧ (s.moduleLinkUp x).stored = s.stored := by simp [Part.moduleLinkUp]

@[simp] theorem Part.keeps_takeOutModule (s : Part) (x : Port) (duration : Nat) :
    (s.takeOutModule x duration).1.tables = s.tables ∧ (s.takeOutModule x duration).1.stored = s.stored := by
  unfold Part.takeOutModule; split <;> simp

@[simp] theorem Part.keeps_returnCommanded (s : Part) (x : Port) :
    (s.returnCommanded x).1.tables = s.tables ∧ (s.returnCommanded x).1.stored = s.stored := by
  unfold Part.returnCommanded; split <;> simp

@[simp] theorem Part.keeps_clearLoss (s : Part) (x : Port) :
    (s.clearLoss x).tables = s.tables ∧ (s.clearLoss x).stored = s.stored := by
  unfold Part.clearLoss; split <;> simp

@[simp] theorem Part.keeps_clearPeaksAll (s : Part) :
    (s.clearPeaksAll).tables = s.tables ∧ (s.clearPeaksAll).stored = s.stored := 
  Part.keeps_foldl (fun t x => by simp) _ s

@[simp] theorem Part.keeps_changeBackup (s : Part) (x : Port) (old : ModuleFields) :
    (s.changeBackup x old).tables = s.tables ∧ (s.changeBackup x old).stored = s.stored := by
  unfold Part.changeBackup; dsimp only; (repeat' split) <;> simp

@[simp] theorem Part.keeps_changePolicy (s : Part) (x : Port) :
    (s.changePolicy x).tables = s.tables ∧ (s.changePolicy x).stored = s.stored := by
  unfold Part.changePolicy; split <;> simp

@[simp] theorem Part.keeps_changeFlapLimit (s : Part) (x : Port) :
    (s.changeFlapLimit x).tables = s.tables ∧ (s.changeFlapLimit x).stored = s.stored := ⟨rfl, rfl⟩

@[simp] theorem Part.keeps_freshModule (s : Part) (x : Port) :
    (s.freshModule x).tables = s.tables ∧ (s.freshModule x).stored = s.stored := ⟨rfl, rfl⟩

@[simp] theorem Part.keeps_resetWatch (s : Part) :
    (s.resetWatch).tables = s.tables ∧ (s.resetWatch).stored = s.stored :=
  Part.keeps_foldl (f := fun u p =>
    let v := u.updModule p Presence.restarted
    if (u.module p).state = .absent then v else v.moduleNotice p (u.module p).state)
    (fun u p => by dsimp only; split <;> simp) _ { s with watch := { s.watch with map := Vector.replicate 12 none } }

/-! ### SceneEntry -/

@[simp] theorem Part.keeps_shiftEntries (s : Part) :
    (s.shiftEntries).tables = s.tables ∧ (s.shiftEntries).stored = s.stored := ⟨rfl, rfl⟩

@[simp] theorem Part.keeps_shiftGenerations (s : Part) :
    (s.shiftGenerations).tables = s.tables ∧ (s.shiftGenerations).stored = s.stored := ⟨rfl, rfl⟩

@[simp] theorem Part.keeps_sceneEntered (s : Part) (forced : Bool) :
    (s.sceneEntered forced).tables = s.tables ∧ (s.sceneEntered forced).stored = s.stored := by
  unfold Part.sceneEntered; dsimp only; split <;> simp

@[simp] theorem Part.keeps_sceneEntry (s : Part) (isSong : Bool) :
    (s.sceneEntry isSong).tables = s.tables ∧ (s.sceneEntry isSong).stored = s.stored := by
  unfold Part.sceneEntry
  by_cases h : s.forces <;> simp [h]

@[simp] theorem Part.keeps_firstScene (s : Part) :
    (s.firstScene).tables = s.tables ∧ (s.firstScene).stored = s.stored := ⟨rfl, rfl⟩

@[simp] theorem Part.keeps_resetScene (s : Part) :
    (s.resetScene).tables = s.tables ∧ (s.resetScene).stored = s.stored := by simp [Part.resetScene]

/-! ### Transport -/

@[simp] theorem Part.keeps_setTransport (s : Part) (t : Transport) :
    (s.setTransport t).tables = s.tables ∧ (s.setTransport t).stored = s.stored := ⟨rfl, rfl⟩

@[simp] theorem Part.keeps_lookup (s : Part) (bar : Nat) :
    (s.lookup bar).tables = s.tables ∧ (s.lookup bar).stored = s.stored := by
  unfold Part.lookup; (repeat' split) <;> simp

@[simp] theorem Part.keeps_setPosition (s : Part) (bar beat : Nat) :
    (s.setPosition bar beat).tables = s.tables ∧ (s.setPosition bar beat).stored = s.stored := by simp [Part.setPosition]

@[simp] theorem Part.keeps_emptyWindow (s : Part) :
    (s.emptyWindow).tables = s.tables ∧ (s.emptyWindow).stored = s.stored := ⟨rfl, rfl⟩

@[simp] theorem Part.keeps_handTick (s : Part) :
    (s.handTick).1.tables = s.tables ∧ (s.handTick).1.stored = s.stored := by
  unfold Part.handTick; split <;> simp

@[simp] theorem Part.keeps_transportNotice (s : Part) :
    s.transportNotice.tables = s.tables ∧ s.transportNotice.stored = s.stored := s.keeps_notice _ _

@[simp] theorem Part.keeps_enterRunning (s : Part) :
    (s.enterRunning).tables = s.tables ∧ (s.enterRunning).stored = s.stored := by simp [Part.enterRunning]

@[simp] theorem Part.keeps_runFromHere (s : Part) :
    (s.runFromHere).1.tables = s.tables ∧ (s.runFromHere).1.stored = s.stored := by simp [Part.runFromHere]

@[simp] theorem Part.keeps_handCount (s : Part) (c : CountState) :
    (s.handCount c).1.tables = s.tables ∧ (s.handCount c).1.stored = s.stored := by simp [Part.handCount]

@[simp] theorem Part.keeps_countTick (s : Part) (c : CountState) :
    (s.countTick c).1.tables = s.tables ∧ (s.countTick c).1.stored = s.stored := by
  unfold Part.countTick; (repeat' split) <;> simp

@[simp] theorem Part.keeps_tick (s : Part) :
    (s.tick).1.tables = s.tables ∧ (s.tick).1.stored = s.stored := by
  unfold Part.tick; split <;> simp

@[simp] theorem Part.keeps_beginCount (s : Part) :
    (s.beginCount).1.tables = s.tables ∧ (s.beginCount).1.stored = s.stored := by
  unfold Part.beginCount; split <;> simp

@[simp] theorem Part.keeps_start (s : Part) :
    (s.start).1.tables = s.tables ∧ (s.start).1.stored = s.stored := by
  unfold Part.start; (repeat' split) <;> simp

@[simp] theorem Part.keeps_enterStopped (s : Part) :
    (s.enterStopped).tables = s.tables ∧ (s.enterStopped).stored = s.stored := by
  unfold Part.enterStopped; split <;> simp

@[simp] theorem Part.keeps_resetSongTime (s : Part) :
    (s.resetSongTime).tables = s.tables ∧ (s.resetSongTime).stored = s.stored := by
  unfold Part.resetSongTime; dsimp only; (repeat' split) <;> simp

@[simp] theorem Part.keeps_runFromBar1 (s : Part) :
    (s.runFromBar1).1.tables = s.tables ∧ (s.runFromBar1).1.stored = s.stored := by
  unfold Part.runFromBar1
  split <;> simp only [Part.keeps_handTick, Part.keeps_runFromHere, Part.keeps_setTempo, and_self]

@[simp] theorem Part.keeps_stopAtEntry (s : Part) :
    (s.stopAtEntry).1.tables = s.tables ∧ (s.stopAtEntry).1.stored = s.stored := by
  unfold Part.stopAtEntry; split <;> simp

@[simp] theorem Part.keeps_startByMode (s : Part) :
    (s.startByMode).1.tables = s.tables ∧ (s.startByMode).1.stored = s.stored := by
  unfold Part.startByMode; (repeat' split) <;> simp

@[simp] theorem Part.keeps_tap (s : Part) :
    (s.tap).tables = s.tables ∧ (s.tap).stored = s.stored := by
  unfold Part.tap; dsimp only; (repeat' split) <;> simp

@[simp] theorem Part.keeps_setOverride (s : Part) (v : Option Nat) :
    (s.setOverride v).tables = s.tables ∧ (s.setOverride v).stored = s.stored := ⟨rfl, rfl⟩

@[simp] theorem Part.keeps_chooseSource (s : Part) :
    (s.chooseSource).tables = s.tables ∧ (s.chooseSource).stored = s.stored := by
  unfold Part.chooseSource; split <;> simp

@[simp] theorem Part.keeps_clockSourceNotice (s : Part) :
    (s.clockSourceNotice).tables = s.tables ∧ (s.clockSourceNotice).stored = s.stored := by simp [Part.clockSourceNotice]

@[simp] theorem Part.keeps_joinWindow (s : Part) (p : Port) :
    (s.joinWindow p).tables = s.tables ∧ (s.joinWindow p).stored = s.stored := by
  unfold Part.joinWindow; split <;> simp

@[simp] theorem Part.keeps_measure (s : Part) :
    (s.measure).tables = s.tables ∧ (s.measure).stored = s.stored := by
  unfold Part.measure
  split
  · exact ⟨rfl, rfl⟩
  · dsimp only
    split <;> exact ⟨rfl, rfl⟩

@[simp] theorem Part.keeps_follow (s : Part) :
    (s.follow).tables = s.tables ∧ (s.follow).stored = s.stored := by
  unfold Part.follow; split <;> simp

@[simp] theorem Part.keeps_sourceClockTaken (s : Part) (p : Port) :
    (s.sourceClockTaken p).1.tables = s.tables ∧ (s.sourceClockTaken p).1.stored = s.stored := by
  unfold Part.sourceClockTaken; dsimp only; split <;> simp

@[simp] theorem Part.keeps_holdover (s : Part) :
    (s.holdover).tables = s.tables ∧ (s.holdover).stored = s.stored := by simp [Part.holdover]

@[simp] theorem Part.keeps_startTempo (s : Part) :
    (s.startTempo).tables = s.tables ∧ (s.startTempo).stored = s.stored := by simp [Part.startTempo]

@[simp] theorem Part.keeps_resetTempo (s : Part) :
    (s.resetTempo).tables = s.tables ∧ (s.resetTempo).stored = s.stored := by
  unfold Part.resetTempo; split <;> simp

/-! ### Setlist -/

@[simp] theorem Part.keeps_setPending (s : Part) (r : Option PendingChange) :
    (s.setPending r).tables = s.tables ∧ (s.setPending r).stored = s.stored := ⟨rfl, rfl⟩

@[simp] theorem Part.keeps_superseded (s : Part) (old : PendingChange) (new : Source) :
    (s.superseded old new).tables = s.tables ∧ (s.superseded old new).stored = s.stored := by simp [Part.superseded]

@[simp] theorem Part.keeps_refused (s : Part) (r : Request) (why : Result) :
    (s.refused r why).tables = s.tables ∧ (s.refused r why).stored = s.stored := by simp [Part.refused]

@[simp] theorem Part.keeps_songEntry (s : Part) (position : Nat) (place : Option Place) :
    (s.songEntry position place).1.tables = s.tables ∧ (s.songEntry position place).1.stored = s.stored := by
  unfold Part.songEntry
  simp only [Part.keeps_sceneEntry, Part.keeps_setCueMute, Part.keeps_stopCue, Part.keeps_startByMode,
    Part.keeps_resetSongTime, and_self]

@[simp] theorem Part.keeps_enterScene (s : Part) (sc : SceneNo) :
    (s.enterScene sc).tables = s.tables ∧ (s.enterScene sc).stored = s.stored := by
  unfold Part.enterScene
  split <;> simp only [Part.keeps_sceneEntry, and_self]

@[simp] theorem Part.keeps_take (s : Part) (r : PendingChange) :
    (s.take r).1.tables = s.tables ∧ (s.take r).1.stored = s.stored := by
  unfold Part.take
  dsimp only
  (repeat' split) <;> simp only [Part.keeps_songEntry, Part.keeps_enterScene, Part.keeps_sceneEntry, Part.keeps_setPending, and_self]

@[simp] theorem Part.keeps_takeStopped (s : Part) :
    (s.takeStopped).1.tables = s.tables ∧ (s.takeStopped).1.stored = s.stored := by
  unfold Part.takeStopped; split <;> simp

@[simp] theorem Part.keeps_stop (s : Part) :
    (s.stop).1.tables = s.tables ∧ (s.stop).1.stored = s.stored := by
  unfold Part.stop; split <;> simp

@[simp] theorem Part.keeps_store (s : Part) (p : PendingChange) :
    (s.store p).1.tables = s.tables ∧ (s.store p).1.stored = s.stored := by
  unfold Part.store; dsimp only; split <;> simp

@[simp] theorem Part.keeps_submit (s : Part) (r : Request) :
    (s.submit r).1.tables = s.tables ∧ (s.submit r).1.stored = s.stored := by
  unfold Part.submit; (repeat' split) <;> simp

@[simp] theorem Part.keeps_submitQuiet (s : Part) (r : Request) :
    (s.submitQuiet r).1.tables = s.tables ∧ (s.submitQuiet r).1.stored = s.stored := by
  unfold Part.submitQuiet; dsimp only; split <;> simp

@[simp] theorem Part.keeps_markHere (s : Part) :
    (s.markHere).tables = s.tables ∧ (s.markHere).stored = s.stored := ⟨rfl, rfl⟩

@[simp] theorem Part.keeps_resetMark (s : Part) :
    (s.resetMark).tables = s.tables ∧ (s.resetMark).stored = s.stored := ⟨rfl, rfl⟩

@[simp] theorem Part.keeps_cueRequest (s : Part) (t : Target) :
    (s.cueRequest t).1.tables = s.tables ∧ (s.cueRequest t).1.stored = s.stored := by
  unfold Part.cueRequest; split <;> simp

@[simp] theorem Part.keeps_fireCue (s : Part) (a : CueAction) :
    (s.fireCue a).1.tables = s.tables ∧ (s.fireCue a).1.stored = s.stored := by
  unfold Part.fireCue; (repeat' split) <;> simp

@[simp] theorem Part.keeps_examineCues (s : Part) :
    (s.examineCues).1.tables = s.tables ∧ (s.examineCues).1.stored = s.stored := by
  unfold Part.examineCues; (repeat' split) <;> simp

@[simp] theorem Part.keeps_beatWork (s : Part) (d : Due) :
    (s.beatWork d).1.tables = s.tables ∧ (s.beatWork d).1.stored = s.stored := by
  cases d <;> unfold Part.beatWork <;> dsimp only <;> (repeat' split) <;> simp

@[simp] theorem Part.keeps_settle (s : Part) (d : Due) (n : Nat) :
    (s.settle d n).tables = s.tables ∧ (s.settle d n).stored = s.stored := by
  induction n generalizing s d with
  | zero => exact ⟨rfl, rfl⟩
  | succ n ih => cases d <;> simp only [Part.settle, ih, Part.keeps_beatWork, and_self]

@[simp] theorem Part.keeps_finish (r : Part × Due) :
    (finish r).tables = r.1.tables ∧ (finish r).stored = r.1.stored := r.1.keeps_settle r.2 _

@[simp] theorem Part.keeps_startSetlist (s : Part) :
    (s.startSetlist).tables = s.tables ∧ (s.startSetlist).stored = s.stored := ⟨rfl, rfl⟩

/-! ### Tempo -/

@[simp] theorem Part.keeps_accumulatorTick (s : Part) :
    (s.accumulatorTick).tables = s.tables ∧ (s.accumulatorTick).stored = s.stored := by
  unfold Part.accumulatorTick; split <;> simp

@[simp] theorem Part.keeps_expireSource (s : Part) :
    (s.expireSource).tables = s.tables ∧ (s.expireSource).stored = s.stored := by
  unfold Part.expireSource; split <;> simp

@[simp] theorem Part.keeps_expireCue (s : Part) :
    (s.expireCue).tables = s.tables ∧ (s.expireCue).stored = s.stored := by
  unfold Part.expireCue; split <;> simp

@[simp] theorem Part.keeps_sourceStart (s : Part) :
    (s.sourceStart).tables = s.tables ∧ (s.sourceStart).stored = s.stored := by
  unfold Part.sourceStart; split <;> simp

@[simp] theorem Part.keeps_jumpTo (s : Part) (bar beat : Nat) :
    (s.jumpTo bar beat).tables = s.tables ∧ (s.jumpTo bar beat).stored = s.stored := by simp [Part.jumpTo]

@[simp] theorem Part.keeps_sourcePosition (s : Part) (bar beat : Nat) :
    (s.sourcePosition bar beat).tables = s.tables ∧ (s.sourcePosition bar beat).stored = s.stored := by
  unfold Part.sourcePosition; dsimp only; (repeat' split) <;> simp

/-! ### Pedal -/

@[simp] theorem Part.keeps_filterLines (s : Part) (levels : BitVec 8) :
    (s.filterLines levels).tables = s.tables ∧ (s.filterLines levels).stored = s.stored := ⟨rfl, rfl⟩

@[simp] theorem Part.keeps_setArmed (s : Part) (i : Trigger) (b : Bool) :
    (s.setArmed i b).tables = s.tables ∧ (s.setArmed i b).stored = s.stored := ⟨rfl, rfl⟩

@[simp] theorem Part.keeps_setHeld (s : Part) (i : Trigger) (b : Bool) :
    (s.setHeld i b).tables = s.tables ∧ (s.setHeld i b).stored = s.stored := ⟨rfl, rfl⟩

@[simp] theorem Part.keeps_armAll (s : Part) :
    (s.armAll).tables = s.tables ∧ (s.armAll).stored = s.stored := ⟨rfl, rfl⟩

@[simp] theorem Part.keeps_startStop (s : Part) :
    (s.startStop).tables = s.tables ∧ (s.startStop).stored = s.stored := by
  unfold Part.startStop; (repeat' split) <;> simp

@[simp] theorem Part.keeps_pedalChange (s : Part) (i : Trigger) (t : TriggerRecord) (target : Target) :
    (s.pedalChange i t target).tables = s.tables ∧ (s.pedalChange i t target).stored = s.stored := by
  unfold Part.pedalChange; split <;> simp

@[simp] theorem Part.keeps_deliver (s : Part) (i : Trigger) :
    (s.deliver i).tables = s.tables ∧ (s.deliver i).stored = s.stored := by
  unfold Part.deliver; dsimp only; (repeat' split) <;> simp

@[simp] theorem Part.keeps_endHold (s : Part) (i : Trigger) (t : TriggerRecord) :
    (s.endHold i t).tables = s.tables ∧ (s.endHold i t).stored = s.stored := by
  unfold Part.endHold; (repeat' split) <;> simp

@[simp] theorem Part.keeps_evaluate (s : Part) (i : Trigger) :
    (s.evaluate i).tables = s.tables ∧ (s.evaluate i).stored = s.stored := by
  unfold Part.evaluate; dsimp only; split <;> simp

@[simp] theorem Part.keeps_firstSample (s : Part) (levels : BitVec 8) :
    (s.firstSample levels).tables = s.tables ∧ (s.firstSample levels).stored = s.stored := ⟨rfl, rfl⟩

@[simp] theorem Part.keeps_sample (s : Part) (levels : BitVec 8) :
    (s.sample levels).tables = s.tables ∧ (s.sample levels).stored = s.stored := by
  unfold Part.sample
  dsimp only
  split
  · exact ⟨rfl, rfl⟩
  · split
    · simp
    · exact Part.keeps_foldl (fun t i => t.keeps_evaluate i) _ _

/-! ### Drain -/

@[simp] theorem Part.keeps_endDrain (s : Part) (d : Drain) :
    (s.endDrain d).tables = s.tables ∧ (s.endDrain d).stored = s.stored := by simp [Part.endDrain]

@[simp] theorem Part.keeps_closeDrain (s : Part) :
    (s.closeDrain).tables = s.tables ∧ (s.closeDrain).stored = s.stored := by
  unfold Part.closeDrain; (repeat' split) <;> simp

@[simp] theorem Part.keeps_startDrain (s : Part) (p : Port) (tag : Byte) :
    (s.startDrain p tag).tables = s.tables ∧ (s.startDrain p tag).stored = s.stored := by simp [Part.startDrain]

/-! ### Link -/

@[simp] theorem Part.keeps_setOwner (s : Part) (new : Option Port) :
    (s.setOwner new).tables = s.tables ∧ (s.setOwner new).stored = s.stored := by
  unfold Part.setOwner; dsimp only; split <;> simp

@[simp] theorem Part.keeps_abandonLoad (s : Part) (p : Port) :
    (s.abandonLoad p).tables = s.tables ∧ (s.abandonLoad p).stored = s.stored := by
  unfold Part.abandonLoad; (repeat' split) <;> simp

@[simp] theorem Part.keeps_consoleLost (s : Part) (p : Port) :
    (s.consoleLost p).tables = s.tables ∧ (s.consoleLost p).stored = s.stored := by
  unfold Part.consoleLost; split <;> simp

@[simp] theorem Part.keeps_passFrame (s : Part) (p : Port) (f : Frame) :
    (s.passFrame p f).tables = s.tables ∧ (s.passFrame p f).stored = s.stored := ⟨rfl, rfl⟩

@[simp] theorem Part.keeps_passIdent (s : Part) (p : Port) :
    (s.passIdent p).tables = s.tables ∧ (s.passIdent p).stored = s.stored := ⟨rfl, rfl⟩

@[simp] theorem Part.keeps_sendIdent (s : Part) (p : Port) :
    (s.sendIdent p).tables = s.tables ∧ (s.sendIdent p).stored = s.stored := by
  unfold Part.sendIdent; split <;> simp

@[simp] theorem Part.keeps_enterIdent (s : Part) (p : Port) :
    (s.enterIdent p).tables = s.tables ∧ (s.enterIdent p).stored = s.stored := by simp [Part.enterIdent]

@[simp] theorem Part.keeps_enterDown (s : Part) (p : Port) :
    (s.enterDown p).tables = s.tables ∧ (s.enterDown p).stored = s.stored := ⟨rfl, rfl⟩

@[simp] theorem Part.keeps_enterRefused (s : Part) (p : Port) :
    (s.enterRefused p).tables = s.tables ∧ (s.enterRefused p).stored = s.stored := ⟨rfl, rfl⟩

@[simp] theorem Part.keeps_enterUp (s : Part) (p : Port) :
    (s.enterUp p).tables = s.tables ∧ (s.enterUp p).stored = s.stored := by
  unfold Part.enterUp; split <;> simp

@[simp] theorem Part.keeps_leaveUp (s : Part) (p : Port) (phase : Phase) :
    (s.leaveUp p phase).tables = s.tables ∧ (s.leaveUp p phase).stored = s.stored := by
  unfold Part.leaveUp; (repeat' split) <;> simp

@[simp] theorem Part.keeps_gainCarrier (s : Part) (p : Port) :
    (s.gainCarrier p).tables = s.tables ∧ (s.gainCarrier p).stored = s.stored := by
  unfold Part.gainCarrier; (repeat' split) <;> simp

@[simp] theorem Part.keeps_loseCarrier (s : Part) (p : Port) :
    (s.loseCarrier p).tables = s.tables ∧ (s.loseCarrier p).stored = s.stored := by
  unfold Part.loseCarrier; split <;> simp

@[simp] theorem Part.keeps_expireHold (s : Part) (p : Port) :
    (s.expireHold p).tables = s.tables ∧ (s.expireHold p).stored = s.stored := by
  unfold Part.expireHold; (repeat' split) <;> simp

@[simp] theorem Part.keeps_expireIdent (s : Part) (p : Port) :
    (s.expireIdent p).tables = s.tables ∧ (s.expireIdent p).stored = s.stored := by
  unfold Part.expireIdent; split <;> simp

@[simp] theorem Part.keeps_expireRefusal (s : Part) (p : Port) :
    (s.expireRefusal p).tables = s.tables ∧ (s.expireRefusal p).stored = s.stored := by
  unfold Part.expireRefusal; (repeat' split) <;> simp

@[simp] theorem Part.keeps_answerIdent (s : Part) (p : Port) :
    (s.answerIdent p).tables = s.tables ∧ (s.answerIdent p).stored = s.stored := by
  unfold Part.answerIdent; (repeat' split) <;> simp

@[simp] theorem Part.keeps_takeIdent (s : Part) (p : Port) (offered : Nat) :
    (s.takeIdent p offered).tables = s.tables ∧ (s.takeIdent p offered).stored = s.stored := by
  unfold Part.takeIdent; dsimp only; (repeat' split) <;> simp

@[simp] theorem Part.keeps_countFault (s : Part) (p : Port) :
    (s.countFault p).tables = s.tables ∧ (s.countFault p).stored = s.stored := ⟨rfl, rfl⟩

@[simp] theorem Part.keeps_joinFaults (s : Part) (p : Port) :
    (s.joinFaults p).tables = s.tables ∧ (s.joinFaults p).stored = s.stored := by
  unfold Part.joinFaults; (repeat' split) <;> simp

@[simp] theorem Part.keeps_takeFault (s : Part) (p : Port) :
    (s.takeFault p).tables = s.tables ∧ (s.takeFault p).stored = s.stored := by
  unfold Part.takeFault; split <;> simp

@[simp] theorem Part.keeps_takeUnexpected (s : Part) (p : Port) :
    (s.takeUnexpected p).tables = s.tables ∧ (s.takeUnexpected p).stored = s.stored := by
  unfold Part.takeUnexpected; split <;> simp

@[simp] theorem Part.keeps_passChoice (s : Part) (p : Port) (c : Choice) :
    (s.passChoice p c).tables = s.tables ∧ (s.passChoice p c).stored = s.stored := by
  cases c <;> simp [Part.passChoice]

@[simp] theorem Part.keeps_emit (s : Part) (p : Port) :
    (s.emit p).tables = s.tables ∧ (s.emit p).stored = s.stored := by
  unfold Part.emit
  rcases s.choice p with _ | _ | _ | _ <;> simp

/-! ### Keys -/

@[simp] theorem Part.keeps_settleDue (s : Part) (p : Port) :
    (s.settleDue p).tables = s.tables ∧ (s.settleDue p).stored = s.stored := by
  unfold Part.settleDue; split <;> simp

@[simp] theorem Part.keeps_presenceDue (s : Part) (p : Port) :
    (s.presenceDue p).tables = s.tables ∧ (s.presenceDue p).stored = s.stored := by
  unfold Part.presenceDue; split <;> simp

@[simp] theorem Part.keeps_commandedDue (s : Part) (p : Port) :
    (s.commandedDue p).tables = s.tables ∧ (s.commandedDue p).stored = s.stored := by
  unfold Part.commandedDue; split <;> simp

@[simp] theorem Part.keeps_cooldownDue (s : Part) (p : Port) :
    (s.cooldownDue p).tables = s.tables ∧ (s.cooldownDue p).stored = s.stored := by
  unfold Part.cooldownDue; (repeat' split) <;> simp

@[simp] theorem Part.keeps_steadyDue (s : Part) (p : Port) :
    (s.steadyDue p).tables = s.tables ∧ (s.steadyDue p).stored = s.stored := by
  unfold Part.steadyDue; split <;> simp

/-! ### Load -/

@[simp] theorem Part.keeps_takeRole (s : Part) (p : Port) :
    (s.takeRole p).tables = s.tables ∧ (s.takeRole p).stored = s.stored := by
  unfold Part.takeRole; (repeat' split) <;> simp

@[simp] theorem Part.keeps_setLoad (s : Part) (l : Option Load) :
    (s.setLoad l).tables = s.tables ∧ (s.setLoad l).stored = s.stored := ⟨rfl, rfl⟩

@[simp] theorem Part.keeps_loadCounts (s : Part) :
    s.loadCounts.1.tables = s.tables ∧ s.loadCounts.1.stored = s.stored := by
  unfold Part.loadCounts; split <;> exact ⟨rfl, rfl⟩

@[simp] theorem Part.keeps_loadRefusal (s : Part) (p : Port) (kind : Nat) (tag : Byte) (r : Result) :
    (s.loadRefusal p kind tag r).tables = s.tables ∧ (s.loadRefusal p kind tag r).stored = s.stored := by simp [Part.loadRefusal]

@[simp] theorem Part.keeps_beginLoad (s : Part) (p : Port) (tag : Byte) (args : Option LoadBeginArgs) :
    (s.beginLoad p tag args).tables = s.tables ∧ (s.beginLoad p tag args).stored = s.stored := by
  unfold Part.beginLoad; (repeat' split) <;> simp

/-! ### Console -/

@[simp] theorem Part.keeps_claimBy (s : Part) (p : Port) (force : Bool) :
    (s.claimBy p force).1.tables = s.tables ∧ (s.claimBy p force).1.stored = s.stored := by
  unfold Part.claimBy; (repeat' split) <;> simp

@[simp] theorem Part.keeps_setCommit (s : Part) (c : Option Commit) :
    (s.setCommit c).tables = s.tables ∧ (s.setCommit c).stored = s.stored := ⟨rfl, rfl⟩

@[simp] theorem Part.keeps_takeCommit (s : Part) (p : Port) (tag : Byte) :
    (s.takeCommit p tag).tables = s.tables ∧ (s.takeCommit p tag).stored = s.stored := by
  unfold Part.takeCommit; (repeat' split) <;> simp

@[simp] theorem Part.keeps_compareEnd (s : Part) :
    (s.compareEnd).tables = s.tables ∧ (s.compareEnd).stored = s.stored := by
  unfold Part.compareEnd; (repeat' split) <;> simp

@[simp] theorem Part.keeps_consoleStart (s : Part) :
    (s.consoleStart).1.tables = s.tables ∧ (s.consoleStart).1.stored = s.stored := by
  unfold Part.consoleStart; (repeat' split) <;> simp

@[simp] theorem Part.keeps_consoleStop (s : Part) :
    (s.consoleStop).1.tables = s.tables ∧ (s.consoleStop).1.stored = s.stored := by
  unfold Part.consoleStop; (repeat' split) <;> simp

@[simp] theorem Part.keeps_consoleToStart (s : Part) :
    (s.consoleToStart).1.tables = s.tables ∧ (s.consoleToStart).1.stored = s.stored := by
  unfold Part.consoleToStart; split <;> simp

@[simp] theorem Part.keeps_consoleOverride (s : Part) (v : Option Nat) :
    (s.consoleOverride v).1.tables = s.tables ∧ (s.consoleOverride v).1.stored = s.stored := by
  unfold Part.consoleOverride; split <;> simp

@[simp] theorem Part.keeps_clearCounters (s : Part) (q : Port) :
    (s.clearCounters q).tables = s.tables ∧ (s.clearCounters q).stored = s.stored := by
  unfold Part.clearCounters; split <;> simp

@[simp] theorem Part.keeps_takeRestart (s : Part) (p : Port) (tag : Byte) :
    (s.takeRestart p tag).tables = s.tables ∧ (s.takeRestart p tag).stored = s.stored := by
  unfold Part.takeRestart; (repeat' split) <;> simp

end Sys2Proof.Machine
end

