-- ==== Sys2Proof/WellFormed.lean ====
section
/-!
DEFINITION. Which commands can come from a frame: the checks on operands that the operand types do not make. The
meanings are total, so no check is needed to run a command; the checks say what a link can carry.
-/

namespace Sys2Proof

/-- A REQUEST has 1 to 15 payload words, of which word 1 is kind and tag (12.2): at most 14 from word 2. -/
def argsFit (args : List Word) : Bool := args.length ≤ 14

/-- The kind codes of UNKNOWN_REQUEST: those that name no request kind (21 to 255, 12.3), and the kinds 12 TRANSPORT and
17 CLEAR where word 2 is missing or its code names none of the rows. DEDUCED (log 19). -/
def kindUnknown (kind : Byte) : Bool := 21 ≤ kind.toNat || kind.toNat == 12 || kind.toNat == 17

/-- Well-formedness of a command. -/
def Instr.wellFormed : Instr → Bool
  | .claim _ _ args | .loadBegin _ _ args | .loadData _ _ args | .loadRun _ _ args | .read _ _ args
  | .readNotes _ _ args | .portStatus _ _ args | .select _ _ args | .tempoSet _ _ args | .takeOut _ _ args
  | .returnModule _ _ args | .noticeMask _ _ args => argsFit args
  | .unknownRequest _ kind _ => kindUnknown kind
  | .deviceReset _ | .storeLoad | .pedalSample _ | .carrierPresent _ | .carrierLost _ | .faultHoldExpiry _
  | .identTimerExpiry _ | .refusalTimerExpiry _ | .ident .. | .frameFault .. | .unexpectedFrame _ | .keyDown ..
  | .keyUp .. | .pressure .. | .control .. | .sustain .. | .presenceReady .. | .presenceSettling ..
  | .presenceFault .. | .sourceClock .. | .transportStartFrame _ | .transportStopFrame _ | .positionFrame ..
  | .emissionChoice _ | .accumulatorTick | .sourceTimerExpiry | .cueTimerExpiry | .settleTimerExpiry _
  | .presenceTimerExpiry _ | .commandedTimerExpiry _ | .cooldownTimerExpiry _ | .steadyTimerExpiry _
  | .commitCompareEnd | .commitEnd _ | .drainEnd | .release .. | .readBlackBox .. | .status .. | .commit ..
  | .transportStart .. | .transportStop .. | .transportToStart .. | .tempoClear .. | .clearFlags .. | .clearPeaks ..
  | .clearBlackBox .. | .clearModule .. | .clearCounts .. | .panic .. | .restart .. => true

end Sys2Proof
end

