-- ==== Sys2Proof/Tests/Slice0.lean ====
section
/-!
SUPPORT. Tests: what the manual's own figures come to, ill-formed commands that the checks refuse, and for every
statement with hypotheses a state and operands that meet them.
-/

namespace Sys2Proof.Machine.Tests

/-! ### Well-formed commands -/

theorem test_wellFormed_refuses_long_payload :
    (Instr.loadData 8 0 (List.replicate 15 0)).wellFormed = false ∧
    (Instr.loadData 8 0 (List.replicate 14 0)).wellFormed = true := by decide

theorem test_wellFormed_refuses_known_kind :
    (Instr.unknownRequest 8 20 0).wellFormed = false ∧ (Instr.unknownRequest 8 21 0).wellFormed = true ∧
    (Instr.unknownRequest 8 12 0).wellFormed = true := by decide

/-! ### Small states -/

/-- Ports of a small rig: a CONTROLLER, two modules of which the second is the backup of the first, a BAND port, two
CONSOLE ports of which the first has priority, and a TIMING port. -/
def ports : PerPort PortRecord :=
  #v[.controller, .off, .modulePort { ModuleFields.default with backupPort := 3, backupNone := false, voiceBudget := 2 },
     .modulePort .default, .off, .off, .band { subdivision := 1, warn := true, mute := false }, .off,
     .console true, .console false, .timing 4, .off]

/-- A zone that takes every key of L0 and plays slot 1 of L2 an octave higher. -/
def zone : ZoneRecord :=
  { ZoneRecord.blank with
    sources := 1, keyHigh := 127, strikeLow := 1, strikeHigh := 1023, transpose := 12, fold := true, curve := 8
    gain := 64, port := 2, slot := 1, sustainFollow := true, pressurePass := true }

def upLink : LinkPort := { LinkPort.reset with phase := .up, carrier := true }
def inService : Presence := { Presence.reset with state := .active }

/-- The rig in service, one scene with one zone, one second after reset. -/
def rig : Part :=
  { Part.reset with
    now := 1000000, starting := false
    tables := { Tables.default with ports := ports }
    links := Vector.ofFn fun p => if ports[p] = .off then { LinkPort.reset with phase := .off } else upLink
    watch := { WatchState.reset with modules := upd (upd WatchState.reset.modules 2 fun _ => inService) 3 fun _ => inService }
    scene := { SceneState.reset with
      current := some { number := 0, position := 0, place := none, zones := [zone], presets := [] } } }

def of (p : Part) : State := { part := p, pending := [] }

/-- An entry of key 60 of L0, as the zone makes it. -/
def note (name key : Nat) (state : EntryState) : Entry :=
  { name := name, srcPort := 0, srcKey := key, gen := 0, zone := 0, dest := 2, slot := 1, key := key + 12, strike := 700,
    state := state, pending := false }

def withNotes (s : Part) (es : List Entry) : Part := { s with notes := { s.notes with entries := es, nextName := es.length } }

/-- The module of L2 in a presence state, as that state is held. -/
def moduleIn (state : PresenceState) : Part :=
  rig.updModule 2 fun m => { m with
    state := state, presenceTimer := some 1300000
    reasons := if state = .out then .only .commanded else .empty
    loss := if state = .barred then 3 else 0
    cooldownTimer := if state = .cooldown then some 1200000 else none
    steadyTimer := if state = .active then some 9000000 else none }

def states : List PresenceState := [.absent, .active, .out, .recovering, .cooldown, .waiting, .barred]

/-- The rig in a song that follows L10, and in another. -/
def following (t : Transport) (tick : Nat) : Part :=
  { rig with tempo := { rig.tempo with followSong := true, source := some 10, transport := t, tick := tick } }

def playing (t : Transport) (tick : Nat) : Part := { rig with tempo := { rig.tempo with transport := t, tick := tick } }

def count : CountState := { beat := 1, total := 4, tick := 46, numerator := 4 }

/-- The rig with CONSOLE L8 holding the claim. -/
def claimed : Part := { rig with console := { rig.console with owner := some 8 } }

/-- The part a command leaves. -/
def after (c : Instr) (s : Part) : Part :=
  match exec c (of s) with
  | .next t => t.part
  | .fault _ | .refused _ => s

/-! ### The manual's figures -/

/-- 12.1: the header of a KEY DOWN for slot 2 and its check word. -/
theorem test_key_down_words :
    (Frame.keyDown 2 72 700).words = [word (1 * 4096 + 2 * 256 + 2 * 8), 72, 700, word (65535 - (4624 + 72 + 700))] ∧
    (Frame.keyDown 2 72 700).header = 4624 := by decide

theorem test_frames_become_commands :
    completeFrame 0 0 [4624, 72, 700, word (65535 - 4624 - 72 - 700)] = .keyDown 0 72 700 ∧
    completeFrame 0 0 [4624, 72, 700, 0] = .frameFault 0 0 ∧
    completeFrame 3 2 [word (12 * 4096 + 256), 1, word (65535 - 12 * 4096 - 256 - 1)] = .presenceSettling 3 2 ∧
    completeFrame 0 8 [word (13 * 4096 + 512), word (12 * 256 + 7), 2, word (65535 - 13 * 4096 - 512 - 12 * 256 - 7 - 2)]
      = .transportToStart 8 7 ∧
    completeFrame 0 8 [word (13 * 4096 + 256), word (33 * 256 + 7), word (65535 - 13 * 4096 - 256 - 33 * 256 - 7)]
      = .unknownRequest 8 33 7 := by decide

theorem test_line_words :
    (∀ b : Bool, readLine (lineWord b (if b then 4624 else 0)) = some (b, if b then 4624 else 0)) ∧
    readLine (lineWord true 4624 ^^^ 2) = none := by decide

/-- Idle words at a receiver of L2, the first ending at `from_`, the others each 10 µs after the one before. -/
def idles (r : Receiver) (from_ n : Nat) : Receiver × List Instr :=
  (List.range n).foldl (fun x i =>
    let y := x.1.take true (from_ + 10 * i) 0 2 (lineWord false 0)
    (y.1, x.2 ++ y.2)) (r, [])

/-- R164: 8 words bring carrier, a silence of 50 µs and none of 49 µs loses it, and 8 more words bring it back. -/
theorem test_silence_loses_carrier :
    let r := idles .reset 10 8
    r.2 = [.carrierPresent 2] ∧ (r.1.listen 129 2).2 = [] ∧ (r.1.listen 130 2).2 = [.carrierLost 2] ∧
    (idles r.1 200 7).2 = [.carrierLost 2] ∧ (idles r.1 200 8).2 = [.carrierLost 2, .carrierPresent 2] := by decide

/-- R9: a falling segment rounds its half up; gain 80 with offset 40, and the clamp. -/
theorem test_strikes :
    Curve.apply #v[0, 128, 256, 384, 512, 700, 562, 896, 1023] 704 = 631 ∧
    rig.sentStrike { zone with gain := 80, offset := 40 } 700 = 915 ∧
    rig.sentStrike { zone with gain := 127, offset := 511 } 1023 = 1023 ∧
    rig.sentStrike { zone with gain := 0, offset := -512 } 1 = 1 ∧
    rig.curveOutput 7 1023 = 1022 := by decide

/-- R10: both edges. -/
theorem test_folds :
    { zone with transpose := 48 }.sentKey 127 = some 127 ∧ { zone with transpose := -48 }.sentKey 0 = some 0 ∧
    { zone with transpose := 12 }.sentKey 116 = some 116 ∧ { zone with transpose := -12 }.sentKey 11 = some 11 ∧
    { zone with transpose := 12, fold := false }.sentKey 116 = none := by decide

/-- R94: three ticks at 120 BPM, a residue carried between them. -/
theorem test_tick_cadence :
    let s := playing .running 0
    (after .accumulatorTick s).tempo.acc = 21846 ∧ (after .accumulatorTick (after .accumulatorTick s)).tempo.acc = 43692 ∧
    (after .accumulatorTick (after .accumulatorTick (after .accumulatorTick s))).tempo.acc = 2 := by decide

/-- R94: an accumulator above two tick intervals makes its second tick 1 µs after its first. -/
theorem test_one_tick_in_a_microsecond :
    let s := { playing .running 0 with
      tempo := { (playing .running 0).tempo with override := some 30000, acc := 3 * 273066666 } }
    let t := after .accumulatorTick s
    let u := after .accumulatorTick t
    t.now = s.now ∧ t.tempo.lastTick = some t.now ∧ t.tempo.acc = 2 * 273066666 ∧ u.now = t.now + 1 ∧
    u.tempo.acc = 273066666 + 65536 ∧ u.tempo.tick = 2 := by decide

/-- R44, R172: a key-down and its key-up leave as two frames, and the table is empty again. -/
theorem test_note_comes_and_goes :
    let s := after (.keyUp 0 60 300) (after (.keyDown 0 60 700) rig)
    let t := after (.emissionChoice 2) s
    s.notes.entries.length = 1 ∧ (t.link 2).sending = some (.keyDown 1 72 700) ∧
    ((after (.emissionChoice 2) t).link 2).sending = some (.keyUp 1 72 300) ∧
    (after (.emissionChoice 2) t).notes.entries = [] := by decide

/-- R184: nine words make a curve record. -/
theorem test_curve_load :
    let s := after (.loadBegin 8 1 [1, 2, 1]) claimed
    let t := after (.loadRun 8 2 [9, 2000]) s
    t.tables.curves[2] = Vector.replicate 9 1023 ∧ t.console.load = none ∧
    (t.link 8).queue.map QueueItem.frame = [.reply 2 1 .done [], .reply 4 2 .done [1, 0]] := by decide

/-- A departure hands the module's notes to nobody: its SOUNDING entry is owed a release, the backup takes its place, and
the black box is latched (R142, R143, R156). -/
theorem test_departure :
    let s := after (.presenceFault 0 2) (withNotes rig [note 0 60 .sounding])
    s.substitute 2 = some 3 ∧ s.notes.entries.map Entry.state = [.owed .moduleOut 0] ∧
    (s.module 2).state = .out ∧ s.watch.blackBox.isSome = true := by decide +kernel

/-- The rig with module fields of its own on L2. -/
def withModule (f : ModuleFields) : Part :=
  { rig with tables := { rig.tables with ports := upd ports 2 fun _ => .modulePort f } }

/-- R43, R44: the SOUNDING entry of a departing module is copied onto the substitute, and its DEFERRED one moves there and is
sent. -/
theorem test_failover :
    let f := { ModuleFields.default with backupPort := 3, backupNone := false, restrikeHeld := true }
    let s := after (.presenceFault 0 2) (withNotes (withModule f) [note 0 60 .sounding, note 1 62 .deferred])
    s.notes.entries.map (fun e => (e.dest, e.key, e.state)) =
      [(2, 72, .owed .moduleOut 0), (3, 74, .sounding), (3, 72, .sounding)] ∧
    (s.link 3).queue.map QueueItem.frame = [.keyDown 1 72 700, .keyDown 1 74 700] := by decide +kernel

/-- The rig with three zones, of which the second plays what the first plays. -/
def layered : Part :=
  { rig with scene := { rig.scene with
      current := some { number := 0, position := 0, place := none, zones := [zone, zone, { zone with slot := 0 }], presets := [] } } }

/-- R27, R28, R30, R48: several zones and a skipped item; a collision; a full table; a key-down during a drain. -/
theorem test_key_down_items :
    ((after (.keyDown 0 60 700) layered).notes.entries.map fun e => (e.zone, e.slot, e.key)) = [(0, 1, 72), (2, 0, 72)] ∧
    (after (.keyDown 0 60 700) (withNotes rig [{ note 0 40 .sounding with key := 72 }])).notes.entries.map Entry.state =
      [.owed .collision 0, .sounding] ∧
    (let s := withNotes rig (List.replicate 256 (note 0 40 (.owed .keyUp 4)))
     (after (.keyDown 0 60 700) s).notes.entries.length = 256 ∧ (after (.keyDown 0 60 700) s).console.flags.noteTableFull = true) ∧
    (let s := { rig with console := { rig.console with drain := some { port := 8, tag := 3 } } }
     (after (.keyDown 0 60 700) s).notes.entries.map Entry.state = [.owed .restart 0]) := by decide +kernel

/-- The first command of a run, and one that an empty queue runs by itself: a timer at its deadline. -/
theorem test_steps :
    step { State.reset with pending := [.storeLoad] } = exec .storeLoad State.reset ∧
    step (of { rig with now := 1300000, watch := (moduleIn .active).watch })
      = exec (.presenceTimerExpiry 2) (of { rig with now := 1300000, watch := (moduleIn .active).watch }) := by
  exact ⟨rfl, rfl⟩

/-! ### Witnesses: states that meet the hypotheses of the statements -/

theorem test_start_up_is_met : (of .reset).part.starting = true ∧ Part.reset.StartHolds := by
  unfold Part.StartHolds; decide

theorem test_first_sample_is_met : rig.starting = false ∧ rig.pedal.lastSample = none := by decide

/-- A trigger of P0 on a low level, armed or not, a millisecond after a sample. -/
def pedals (action : TriggerAction) (armed : Bool) : Part :=
  { rig with
    now := 5001000
    tables := { rig.tables with
      pedal := { PedalTable.default with
        triggers := upd PedalTable.default.triggers 0 fun _ =>
          { TriggerRecord.empty with mask := 1, pattern := if armed then 1 else 0, action := action }
        debounce := Vector.replicate 8 1 } }
    pedal := { rig.pedal with lastSample := some 5000, armed := upd rig.pedal.armed 0 fun _ => armed,
                              held := upd rig.pedal.held 0 fun _ => !armed } }

/-- Lines of a level that stays, that differs for one sample fewer than the debounce time, and for as many. -/
theorem test_debounce_is_met :
    let s := { rig with pedal := { rig.pedal with lastSample := some 5, counts := upd (Vector.replicate 8 6) 1 fun _ => 7 } }
    let levels : BitVec 8 := 252
    s.starting = false ∧ s.pedal.lastSample ≠ none ∧ levels.getLsbD 2 = s.pedal.filtered.getLsbD 2 ∧
    levels.getLsbD 0 ≠ s.pedal.filtered.getLsbD 0 ∧ s.pedal.counts[0] + 1 < s.tables.pedal.debounce[0] ∧
    levels.getLsbD 1 ≠ s.pedal.filtered.getLsbD 1 ∧ s.tables.pedal.debounce[1] = s.pedal.counts[1] + 1 ∧
    ∀ i : Trigger, (s.trigger i).conforms (after (.pedalSample levels) s).pedal.filtered = s.pedal.armed[i] := by decide

/-- A tap with no tap before it, and 199, 200, 2000 and 2001 ms after one. -/
theorem test_tap_is_met :
    ∀ last ∈ [none, some 4802000, some 4801000, some 3001000, some 3000000],
      let s := { pedals .tap true with tempo := { rig.tempo with lastTap := last } }
      s.MovesAlone 254 0 true false ∧ (s.trigger 0).action = .tap ∧ s.tempo.followSong = false ∧
      ((s.sampled 254).setArmed 0 false).now = 5001000 := by
  unfold Part.MovesAlone; decide

theorem test_click_mute_is_met :
    (pedals .clickMute true).MovesAlone 254 0 true false ∧
    (pedals .clickMute false).MovesAlone 254 0 false true ∧ (pedals .clickMute false).pedal.held[(0 : Trigger)] = true := by
  unfold Part.MovesAlone; decide

theorem test_port_not_up_is_met :
    rig.isUp 1 = false ∧ ∀ ph ∈ [Phase.off, .down, .ident, .refused], (rig.updLink 6 fun l => { l with phase := ph }).isUp 6 = false := by
  decide

/-- A port of each role is UP; an eighth frame fault within 1,000 ms, and one at 1,000 ms. -/
theorem test_port_up_is_met :
    (∀ x ∈ [(0, Role.controller), (2, .modulePort), (6, .band), (8, .console), (10, .timing)],
      rig.isUp x.1 = true ∧ rig.role x.1 = x.2) ∧
    rig.console.drain = none ∧ (3 : BitVec 3).toNat ≠ (rig.role 2).expected ∧
    let s := rig.updLink 2 fun l => { l with faults := List.replicate 7 500 }
    (s.link 2).faults = 500 :: List.replicate 6 500 ∧ (List.replicate 6 500).length = 6 ∧
    rig.now + 499 < 500 + 1000000 ∧ 500 + 1000000 ≤ (s.elapse 500).now ∧
    ((rig.updLink 2 fun l => { l with faults := List.replicate 6 500 }).link 2).faults.length = 6 := by decide

/-- What a lost carrier leaves a port of the rig with. -/
def carrierLossOf (p : Port) : LinkPort := { rig.link p with carrier := false }.leavesUp .down

/-- The rig with a RESTART drain and these entries. -/
def draining (es : List Entry) : Part :=
  { withNotes rig es with console := { rig.console with drain := some { port := 8, tag := 3 } } }

/-- Each way out of UP; a drain that the way out does not end, and ones that it ends for a CONTROLLER and a MODULE port. -/
theorem test_ways_out_are_met :
    let c := carrierLossOf 2
    let s := rig.updLink 2 fun l => { l with faults := List.replicate 7 500 }
    rig.WayOut 2 (.carrierLost 2) rig c ∧
    rig.WayOut 2 (.ident 5 2 3) (rig.elapse 5) { (rig.link 2).leavesUp .refused with
      identTimer := none, identWaiting := false, refusalTimer := some 3000005 } ∧
    s.WayOut 2 (.frameFault 5 2) (s.elapse 5) { (s.link 2).leavesUp .down with
      frameFaults := 1, faultHold := some 1200005 } ∧
    (draining []).console.drain ≠ none ∧ (draining [note 0 60 .deferred]).notes.entries ≠ [] ∧
    (∀ e ∈ (draining [note 0 60 (.owed .restart 0)]).notes.entries, e.dest = 2 ∧ e.isOwed = true) ∧
    rig.role 2 = .modulePort ∧ rig.NamesHold ∧ s.NamesHold ∧ (draining [note 0 60 .sounding]).NamesHold := by
  unfold Part.NamesHold
  refine ⟨.inl ⟨rfl, rfl, rfl⟩, .inr (.inl ⟨5, 3, rfl, by decide, rfl, rfl⟩), .inr (.inr ⟨5, rfl, rfl, rfl, ?_, rfl⟩), ?_⟩ <;>
    decide

/-- The module of L2 is UP in each of its states, and entry names hold. -/
theorem test_module_states_are_met :
    ∀ st ∈ states, ∀ es ∈ [[], [note 0 60 .sounding, note 1 62 (.owed .keyUp 4)]],
      let s := withNotes (moduleIn st) es
      s.isUp 2 = true ∧ s.role 2 = .modulePort ∧ s.console.drain = none ∧ s.NamesHold ∧ (s.module 2).state = st ∧
      s.isSettling 2 = false ∧ (s.module 2).presenceTimer = some 1300000 := by
  unfold Part.NamesHold; decide

theorem test_link_timers_are_met :
    let down := rig.updLink 2 fun l => { l with phase := .down, faultHold := some 1200000 }
    let refused := rig.updLink 2 fun l => { l with phase := .refused, refusalTimer := some 3000000 }
    let waits := rig.updLink 2 fun l => { l with phase := .ident, identTimer := some 1200000 }
    (down.link 2).faultHold = some 1200000 ∧ (refused.link 2).refusalTimer = some 3000000 ∧
    (waits.link 2).identTimer = some 1200000 := by decide

/-- An IDENT in UP 199,999 and 200,000 µs after the last one, and in IDENT and REFUSED. -/
theorem test_ident_is_met :
    let s := rig.updLink 2 fun l => { l with lastIdent := some 1000000 }
    s.isUp 2 = true ∧ (2 : BitVec 3).toNat = (rig.role 2).expected ∧
    ((s.elapse 199999).link 2).lastIdent.any (fun t0 => decide ((s.elapse 199999).now < t0 + 200000)) = true ∧
    ((s.elapse 200000).link 2).lastIdent.any (fun t0 => decide ((s.elapse 200000).now < t0 + 200000)) = false ∧
    (s.elapse 200000).HasRoom 2 ∧
    (∀ x ∈ [(0, 1), (2, 2), (6, 3), (8, 4), (10, 5)], (rig.role x.1).expected = x.2) ∧
    ((rig.updLink 2 fun l => { l with phase := .ident }).link 2).phase = .ident ∧
    ((rig.updLink 2 fun l => { l with phase := .refused }).link 2).phase = .refused ∧
    (5 : BitVec 3).toNat ≠ (rig.role 2).expected ∧ (rig.link 1).phase = .off ∧
    ((rig.updLink 2 fun l => { l with phase := .down }).link 2).phase = .down ∧
    (let m := { (moduleIn .out).module 2 with reasons := .only .linkDown }
     m.state = .out ∧ { m.reasons with linkDown := false } = Reasons.empty) := by
  unfold Part.HasRoom; decide

/-- R167: one answer to two IDENTs while it waits; none in the 200 ms after it is passed; and an answer that a departure
flushes was never sent, so that the next IDENT in UP is answered. -/
theorem test_ident_is_answered_once :
    let s := after (.ident 0 2 2) rig
    let t := after (.emissionChoice 2) s
    let back := (after (.ident 5 2 3) s).updLink 2 fun l => { l with phase := .up }
    (s.link 2).queue.map QueueItem.frame = [.ident 2] ∧ after (.ident 0 2 2) s = s ∧
    (t.link 2).lastIdent = some 1000000 ∧ (after (.ident 199999 2 2) t).link 2 = t.link 2 ∧
    ((after (.ident 200000 2 2) t).link 2).queue.map QueueItem.frame = [.ident 2] ∧
    (back.link 2).lastIdent = none ∧ ((after (.ident 5 2 2) back).link 2).queue.map QueueItem.frame = [.ident 2] := by
  decide +kernel

/-- R164, R178: silent until the store load and in OFF, an IDENT on the line in IDENT, idle words in DOWN. -/
theorem test_transmitters :
    let s := after .storeLoad (Part.reset.updLink 0 fun l => { l with carrier := true })
    Part.reset.transmits 0 = .silent ∧ s.transmits 0 = .frame (.ident 4) ∧ s.transmits 1 = .silent ∧
    (after .storeLoad .reset).transmits 0 = .idle ∧ (Transmit.frame (.keyDown 2 72 700)).words.length = 4 := by
  decide +kernel

theorem test_frame_not_accepted_is_met :
    frameOf (.sourceClock 3 0) = some ⟨0, some .timing, 3⟩ ∧ (rig.link 0).phase = .up ∧
    some Role.timing ≠ some (rig.role 0) ∧ frameOf (.unexpectedFrame 0) = some ⟨0, none, 0⟩ ∧ none ≠ some (rig.role 0) ∧
    (rig.link 1).phase = .off ∧ ((rig.updLink 0 fun l => { l with phase := .ident }).link 0).phase = .ident := by decide

/-! ### Zones and notes -/

theorem test_strike_ranges_are_met :
    (∀ c ∈ rig.tables.curves.toList, ∀ y ∈ c.toList, y ≤ 1023) ∧ rig.tables.curves.toList[7]? = some Curve.default ∧
    1023 / 128 = 7 ∧ 1023 - 128 * 7 = 127 ∧ 1 / 128 = 0 ∧ Curve.default.toList[8]? = some 1023 ∧
    (1023 : Int) * 127 = 129921 := by decide

/-- The transposed keys where the clauses of R10 meet: -48, -1, 0, 127, 128 and 175. -/
theorem test_key_ranges_are_met :
    ((0 : Int) + (-48) = -48 ∧ (47 : Int) + (-48) = -1 ∧ (48 : Int) + (-48) = 0 ∧
      (127 : Int) + 0 = 127 ∧ (80 : Int) + 48 = 128 ∧ (127 : Int) + 48 = 175) ∧
    { zone with transpose := -48 }.sentKey 0 = some 0 ∧ { zone with transpose := 48 }.sentKey 80 = some 116 ∧
    { zone with transpose := -48 }.sentKey 47 = some 11 ∧ { zone with transpose := 48 }.sentKey 127 = some 127 := by decide

theorem test_no_zone_is_met :
    let s := { rig with scene := { rig.scene with current := none } }
    s.isUp 0 = true ∧ s.role 0 = .controller ∧ s.zoneResult 0 60 (max 1 (0 : BitVec 10).toNat) = [] := by decide

theorem test_one_zone_is_met :
    rig.OneZone 0 60 700 [] zone [] 72 2 ∧ rig.Untouched 0 60 2 1 72 ∧ rig.console.drain = none ∧
    rig.kept 2 < (rig.moduleFields 2).voiceBudget ∧ rig.notes.entries.length < 256 ∧ rig.isSettling 2 = false ∧
    rig.HasRoom 2 := by
  refine ⟨⟨⟨_, rfl, rfl⟩, by decide, by decide, by decide, ⟨2, by decide⟩⟩, ?_⟩
  unfold Part.Untouched Part.HasRoom
  decide

/-- Sixteen DEFERRED entries of other keys on the module of L2, settling, with a budget of 64. -/
def deferring : Part :=
  let s := rig.setSettle 2 (some { seen := true, timer := 1400000 })
  let t := { s with tables := { s.tables with ports := upd ports 2 fun _ => .modulePort .default } }
  withNotes t ((List.range 16).map fun i => note i i .deferred)

theorem test_deferring_is_met :
    (deferring.OneZone 0 60 700 [] zone [] 72 2 ∧ deferring.Untouched 0 60 2 1 72 ∧
      deferring.kept 2 < (deferring.moduleFields 2).voiceBudget) ∧ deferring.isSettling 2 = true ∧
    deferring.deferredCount 2 = 16 ∧
    deferring.notes.entries = [] ++ note 0 0 .deferred :: (List.range 15).map (fun i => note (i + 1) (i + 1) .deferred) ∧
    (∀ x ∈ (List.range 15).map (fun i => note (i + 1) (i + 1) .deferred), x.name ≠ 0) ∧
    (withNotes deferring []).deferredCount 2 < 16 ∧ (withNotes deferring []).isSettling 2 = true := by
  refine ⟨⟨⟨⟨_, rfl, rfl⟩, by decide, by decide, by decide, ⟨2, by decide⟩⟩, ?_⟩, ?_⟩
  · unfold Part.Untouched; decide
  · decide

/-- A budget of two used up: by two SOUNDING entries, and by two DEFERRED ones. -/
theorem test_steal_is_met :
    ∀ st ∈ [EntryState.sounding, .deferred],
      let s := withNotes rig [note 0 40 st, note 1 41 st]
      (∃ n ∈ portOf zone.port, s.role n = .modulePort ∧ s.isActive n = true ∧ n = 2) ∧ s.Untouched 0 60 2 1 72 ∧
      s.kept 2 = (s.moduleFields 2).voiceBudget ∧ s.NamesHold ∧ s.HasRoom 2 ∧
      s.IsVictim 2 [] (note 0 40 st) [note 1 41 st] := by
  intro st h
  simp only [List.mem_cons, List.not_mem_nil, or_false] at h
  unfold Part.Untouched Part.HasRoom Part.NamesHold Part.IsVictim
  rcases h with rfl | rfl
  · exact ⟨⟨2, by decide⟩, by decide, by decide, by decide, by decide, rfl, rfl, 2, by decide⟩
  · exact ⟨⟨2, by decide⟩, by decide, by decide, by decide, by decide, rfl, rfl, 3, by decide⟩

theorem test_key_events_are_met :
    rig.isUp 0 = true ∧ rig.role 0 = .controller ∧
    let s := withNotes rig [note 0 60 .sounding]
    s.RoomFor ((s.notes.entries.filter fun e =>
      e.srcPort == 0 && e.srcKey == 60 && e.isSounding && (s.zoneOf e).any ZoneRecord.pressurePass).map
      fun e => (e.dest, { frame := .pressure e.slot e.key 5, entry := none })) ∧
    rig.RoomFor [(2, { frame := .control 1 7 5, entry := none })] := by
  unfold Part.RoomFor; decide

/-! ### Modules -/

theorem test_settles_are_met :
    ∀ seen : Bool,
      let s := withNotes (rig.setSettle 2 (some { seen := seen, timer := 1400000 })) [note 0 60 .deferred]
      s.scene.settle[(2 : Port)] = some { seen := seen, timer := 1400000 } ∧ s.NamesHold ∧ s.NotesDistinct ∧
      (s.module 2).state = .active ∧
      (s.elapse 400000).RoomFor [(2, { frame := .keyDown 1 72 700, entry := some 0 })] := by
  unfold Part.NamesHold Part.NotesDistinct Part.RoomFor; decide

/-- The module of L2 in COOLDOWN under a return policy. -/
def returning (policy : ReturnPolicy) : Part :=
  { moduleIn .cooldown with
    tables := { rig.tables with ports := upd ports 2 fun _ => .modulePort { ModuleFields.default with returnPolicy := policy } } }

/-- RECOVERING at the count before the recovery count and at it; COOLDOWN with each policy; the timers. -/
theorem test_returns_are_met :
    let f := rig.moduleFields 2
    let r (n : Nat) := (moduleIn .recovering).updModule 2 fun m => { m with progress := n }
    bump 8 ((r 1).module 2).progress < f.recoveryCount ∧ f.recoveryCount ≤ bump 8 ((r 2).module 2).progress ∧
    0 < f.cooldown ∧ f.returnPolicy ≠ .immediate ∧
    ((moduleIn .cooldown).module 2).cooldownTimer = some 1200000 ∧
    ((moduleIn .active).module 2).steadyTimer = some 9000000 ∧
    ((returning .immediate).moduleFields 2).returnPolicy = .immediate ∧
    ((returning .immediate).module 2).state = .cooldown ∧
    (((moduleIn .out).updModule 2 fun m => { m with commandedTimer := some 1500000 }).module 2).commandedTimer
      = some 1500000 ∧ rig.role 2 = .modulePort := by decide

/-- READY at the recovery count with a cooldown of 0, under each policy. -/
theorem test_no_cooldown_is_met :
    ∀ policy ∈ [ReturnPolicy.immediate, .nextScene, .nextSong],
      let s := { withModule { ModuleFields.default with returnPolicy := policy, cooldown := 0 } with
        watch := ((moduleIn .recovering).updModule 2 fun m => { m with progress := 2 }).watch }
      let m := gapTaken (s.module 2) (s.now / 1000)
      s.isUp 2 = true ∧ s.role 2 = .modulePort ∧ s.isSettling 2 = false ∧ m.state = .recovering ∧
      (s.moduleFields 2).recoveryCount ≤ bump 8 m.progress ∧ (s.moduleFields 2).cooldown = 0 ∧
      (s.moduleFields 2).returnPolicy = policy := by decide

/-! ### Tempo -/

/-- RUNNING within a beat, at its end and at the end of a bar; COUNTING IN within a count beat, at its end, and at the end
of the count. -/
theorem test_transports_are_met :
    (∀ x ∈ [(Transport.running, 46), (.running, 47), (.countingIn count, 0), (.countingIn { count with tick := 47 }, 0),
        (.countingIn { count with beat := 4, tick := 47 }, 0)],
      (playing x.1 x.2).tempo.transport ≠ .stopped ∧ (playing x.1 x.2).tempo.followSong = false ∧
      0 < (playing x.1 x.2).effectiveTempo ∧ (playing x.1 x.2).setlist.pending = none ∧ (playing x.1 x.2).accRuns = true) ∧
    count.tick < 47 ∧ count.beat < count.total := by decide

/-- The rig at the last tick of bar 1, in a song of two scenes that has this cue at bar 2, beat 1. -/
def cued (code argument width : Nat) : Part :=
  let s := playing .running 47
  { s with
    tables := { s.tables with
      setlist := { count := 2, places := List.replicate 64 0 }
      songs := s.tables.songs.set 0 { SongRecord.default with
        sceneCount := 2, cueCount := 1
        cuePlaces := [{ bar := 2, beat := 1, action := code, argument := argument, width := width }] } }
    setlist := { s.setlist with place := some { song := 0, scene := 0 } }
    tempo := { s.tempo with beat := 4 } }

/-- Each action of a cue that is due at the next beat start; the targets of the change cues are taken alone. -/
theorem test_cues_are_met :
    (∀ x ∈ [(2, CueAction.muteOn), (3, .muteOff), (4, .stop), (5, .cue 7 50), (0, .scene 7), (1, .nextSong)],
      let v := (cued x.1 7 50).atTick.atNextBeat.barLookup
      v.dueCue = some x.2 ∧ v.met = none ∧ v.tempo.followSong = false ∧ (cued x.1 7 50).accRuns = true) ∧
    (let v := (cued 0 1 50).atTick.atNextBeat.barLookup
     v.resolveTarget (.sceneAt 1) = some (.scene 1) ∧ v.alreadyAt (.scene 1) = false ∧ v.TakesAlone (.scene 1) ∧
     v.resolveTarget (.sceneAt 0) = some (.scene 0) ∧ v.alreadyAt (.scene 0) = true) ∧
    (let v := (cued 1 7 50).atTick.atNextBeat.barLookup
     v.resolveTarget .nextSong = some (.song 1 none) ∧ v.alreadyAt (.song 1 none) = false ∧ v.TakesAlone (.song 1 none)) ∧
    (let s := cued 1 7 50
     let v := Part.barLookup <| Part.atNextBeat <| Part.atTick
       { s with tables := { s.tables with setlist := { count := 0, places := [] } } }
     v.resolveTarget .nextSong = none ∧ v.activeSong.isSome = true) := by
  refine ⟨?_, by unfold Part.TakesAlone; decide, by unfold Part.TakesAlone; decide, by decide⟩
  intro x h
  simp only [List.mem_cons, List.not_mem_nil, or_false] at h
  rcases h with rfl | rfl | rfl | rfl | rfl | rfl <;>
    exact ⟨rfl, rfl, rfl, rfl⟩

/-- A request that the next bar start takes, and one that a count beat takes: of a scene, of a song and a RELOAD. -/
theorem test_takings_are_met :
    ∀ x ∈ [Resolved.scene 1, .song 1 none, .reload],
      let r : PendingChange := { source := .cue, target := x, boundary := .nextBar, priority := 1 }
      let s := cued 6 0 0
      let u := { s with setlist := { s.setlist with pending := some r, markBar := 2, markPassed := true } }
      let v := Part.barLookup (Part.atNextBeat (Part.atTick u))
      v.met = some x ∧ v.dueCue = none ∧ v.TakesAlone x ∧ u.metByCount = some x ∧ u.halted.TakesAlone x ∧
      Part.TakesAlone { u with tempo := { u.tempo with transport := .countingIn { count with beat := 2, tick := 0 } } } x := by
  intro x h
  simp only [List.mem_cons, List.not_mem_nil, or_false] at h
  rcases h with rfl | rfl | rfl <;> unfold Part.TakesAlone <;> decide

theorem test_source_clocks_are_met :
    (∀ x ∈ [(Transport.stopped, 0), (.running, 46), (.running, 47), (.countingIn count, 0),
        (.countingIn { count with tick := 47 }, 0), (.countingIn { count with beat := 4, tick := 47 }, 0)],
      (following x.1 x.2).isUp 10 = true ∧ (following x.1 x.2).port 10 = .timing 4 ∧
      (following x.1 x.2).tempo.followSong = true ∧ (following x.1 x.2).tempo.source = some 10 ∧
      ((following x.1 x.2).elapse 5).atNextBeat.met = none ∧ ((following x.1 x.2).elapse 5).atNextBeat.dueCue = none) ∧
    0 < ([10000, 10001] : List Nat).sum / 2 ∧ count.tick < 47 ∧ rig.tempo.followSong = false ∧
    (let s := { following .running 0 with tempo := { (following .running 0).tempo with lastClock := some 1000000 } }
     s.tempo.lastClock.elim s.tempo.window (fun t0 => s.tempo.window ++ [(s.elapse 0).now - t0]) = [0] ∧
     ¬([0] = ([] : List Nat) ∨ 0 < ([0] : List Nat).sum / 1)) := by decide

theorem test_timing_frames_are_met :
    ∀ x ∈ [(Transport.stopped, 1), (.running, 1), (.countingIn count, 1), (.stopped, 0), (.countingIn count, 0)],
      let s := following x.1 x.2
      s.role 10 = .timing ∧ s.tempo.transport = x.1 ∧ s.tempo.tick = x.2 ∧ s.setlist.pending = none ∧ s.dueCue = none := by decide

theorem test_timers_are_met :
    ({ rig with tempo := { rig.tempo with sourceTimer := some 1100000 } }).tempo.sourceTimer = some 1100000 ∧
    let s := { rig with click := { rig.click with cue := some { number := 7, timer := 1100000 } } }
    s.click.cue = some { number := 7, timer := 1100000 } ∧
    (s.elapse 100000).RoomFor [(6, { frame := .cue false 7, entry := none })] := by
  unfold Part.RoomFor; decide

/-! ### Emission -/

/-- Releases ready behind a burst of 7 and a CLOCK; a CLOCK behind 8; an idle port. -/
theorem test_emission_is_met :
    let s := withNotes rig [note 0 60 .sounding, note 1 62 (.owed .keyUp 4)]
    let c (n : Nat) := s.updLink 2 fun l => { l with queue := [{ frame := .clock, entry := none }], burst := n }
    let ready (e : Entry) : Bool := e.dest == 2 && e.isOwed && !e.pending
    s.NamesHold ∧ s.notes.entries = [note 0 60 .sounding] ++ note 1 62 (.owed .keyUp 4) :: [] ∧
    ready (note 1 62 (.owed .keyUp 4)) = true ∧ ready (note 0 60 .sounding) = false ∧
    (∀ n ∈ [7, 8], ((c n).link 2).queue = [{ frame := .clock, entry := none }] ∧ ((c n).link 2).burst = n) ∧
    (rig.link 6).queue = [] ∧ rig.role 6 ≠ .modulePort := by
  unfold Part.NamesHold; decide

/-- The last release of a drain; an IDENT that waits for the transmitter. -/
theorem test_last_release_is_met :
    let s := draining [note 0 60 (.owed .restart 0)]
    s.NamesHold ∧ s.isUp 2 = true ∧ s.role 2 = .modulePort ∧ (s.link 2).burst = 0 ∧ s.console.drain ≠ none ∧
    s.notes.entries = [] ++ note 0 60 (.owed .restart 0) :: [] ∧
    let l := (rig.updLink 2 fun l => { l with phase := .ident, identWaiting := true }).link 2
    l.phase = .ident ∧ l.identWaiting = true := by
  unfold Part.NamesHold; decide

/-! ### Console -/

theorem test_requests_are_met :
    (∀ p ∈ [(8 : Port), 9], rig.Asks p) ∧ rig.port 8 = .console true ∧ rig.port 9 = .console false ∧
    rig.console.owner = none ∧ claimed.console.owner = some 8 ∧ claimed.console.commit = none ∧
    claimed.console.drain = none ∧ claimed.console.load = none ∧ (1 : Word).getLsbD 0 = true ∧
    (12 : BitVec 4).toNat = 12 ∧ (15 : Word).toNat % 16 = 15 ∧ (11 : Word).toNat % 16 = (11 : Port).val ∧
    (6 : Word).toNat % 8 = 6 ∧ TableId.scene.code = (5 : Word).toNat % 8 := by
  unfold Part.Asks Part.HasRoom; decide

theorem test_commits_are_met :
    ∀ w : Bool,
      let s := { rig with console := { rig.console with commit := some { port := 8, tag := 5, writing := w } } }
      s.console.commit = some { port := 8, tag := 5, writing := w } ∧ s.HasRoom 8 ∧ s.RoomFor [toPort 8 .clock] := by
  unfold Part.HasRoom Part.RoomFor; decide

theorem test_commit_equal_is_met :
    ({ rig with stored := some rig.tables }).stored = some rig.tables ∧ rig.stored ≠ some rig.tables := ⟨rfl, nofun⟩

theorem test_restart_is_met :
    let s := withNotes claimed [note 0 60 .sounding]
    s.console.owner = some 8 ∧ s.console.drain = none ∧ ((s.notes.entries.map fun e =>
      if e.rings = true then { e with state := .owed .restart 0 } else e).filter fun e => !e.isDeferred) ≠ [] ∧
    (draining []).notes.entries = [] ∧ claimed.notes.entries = [] := by decide

/-- COMMIT and RESTART from a port without the claim, and during a commit, a load and a drain. -/
theorem test_refusals_are_met :
    rig.Asks 8 ∧ rig.console.owner ≠ some 8 ∧
    ∀ x ∈ [({ claimed.console with commit := some { port := 8, tag := 1, writing := false } } : ConsoleState),
        { claimed.console with load := some { owner := 8, table := .curve, next := 7, left := 1, words := [], written := 0 } },
        { claimed.console with drain := some { port := 8, tag := 3 } }],
      Part.Asks { claimed with console := x } 8 ∧ x.owner = some 8 ∧ (x.commit ≠ none ∨ x.load ≠ none ∨ x.drain ≠ none) := by
  unfold Part.Asks Part.HasRoom; decide

/-- Loads at the ends of their ranges: LOAD BEGIN of records 448 to 511 of the SCENE table, and one past it; a curve with
its ninth word missing, the last record and one before it. -/
theorem test_loads_are_met :
    (1 ≤ 64 ∧ 448 + 64 ≤ TableId.scene.records) ∧ ¬(449 + 64 ≤ TableId.scene.records) ∧
    loadDataArgs [1023] = some [1023] ∧ loadRunArgs [9, 5] = some (List.replicate 9 5) ∧
    TableId.curve.recordLength = 9 ∧
    ∀ n ∈ [(1 : Nat), 2],
      let l : Load := { owner := 8, table := .curve, next := 7, left := n, words := List.replicate 8 0, written := 0 }
      let s := { claimed with console := { claimed.console with load := some l } }
      s.console.load.map Load.left = some n ∧ (s.console.load.map fun l => l.words.length) = some 8 := by decide

/-- A SONG record's words: its start mode, its first denominator and its first bar. -/
def songWords (mode denominator bar : Nat) : List Word :=
  List.replicate 8 0 ++ [word (1 + mode * 256), word 17, word bar, word 12000, word (4 + denominator * 256)] ++
    List.replicate 93 0

/-- Records that are written and records that are refused; a last record with a word behind it; loads that answer BAD VALUE,
BUSY, NOT OWNER and NOT EXPECTED. -/
theorem test_records_are_met :
    recordOfWords .song (songWords 0 3 1) = .error .badValue ∧ recordOfWords .song (songWords 3 4 1) = .error .badValue ∧
    recordOfWords .song (songWords 0 4 2) = .error .badOrder ∧
    (∃ r, recordOfWords .song (songWords 0 4 1) = .ok r) ∧ (songWords 0 4 1).length = TableId.song.recordLength ∧
    recordOfWords .port [7, 0, 0, 0, 0, 0, 0, 0] = .error .badValue ∧
    (let l : Load := { owner := 8, table := .curve, next := 7, left := 1, words := List.replicate 8 0, written := 0 }
     9 < (l.words ++ [1, 2]).length ∧ l.left ≤ 1) ∧
    loadDataArgs [] = none ∧ loadRunArgs [1, 5] = none ∧ claimed.console.load = none ∧ claimed.console.owner ≠ some 9 ∧
    ({ claimed with console := { claimed.console with commit := some { port := 8, tag := 1, writing := false } } }).console.commit
      ≠ none := by
  refine ⟨rfl, rfl, rfl, ⟨_, rfl⟩, rfl, rfl, ?_⟩
  decide

/-- A request whose words end one record and begin the next; a load that gives its own port another role. -/
theorem test_long_loads_are_met :
    (let l : Load := { owner := 8, table := .curve, next := 6, left := 2, words := List.replicate 8 0, written := 0 }
     let w := (claimed.setLoad (some { l with next := 7, left := 1, words := [], written := 1 })).writeRecord 6
       (.curve Curve.default)
     (l.words ++ [1, 2]).drop 9 = [2] ∧ loadDataArgs [2] = some [2] ∧ loadRunArgs [2, 5] = some [5, 5] ∧
     w.isUp 8 = true ∧ w.console.load ≠ none ∧ w.HasRoom 8) ∧
    (let w := (claimed.setLoad none).writeRecord 8 (.port .off)
     w.isUp 8 = false ∧ w.console.load = none) := by
  unfold Part.HasRoom; decide +kernel

/-- PORT and PEDAL records: a role of each code and an unknown one; an action and a boundary that are known, and one past
each. -/
theorem test_port_words_are_met :
    (∀ r ∈ [(0 : Word), 1, 2, 3, 4, 5], (∃ x, recordOfWords .port (r :: List.replicate 7 0) = .ok (.port x))) ∧
    recordOfWords .port (6 :: List.replicate 7 0) = .error .badValue ∧
    (∃ x, recordOfWords .pedal (0 :: word (11 + 4 * 16) :: List.replicate 27 0) = .ok (.pedal x)) ∧
    recordOfWords .pedal (0 :: word 12 :: List.replicate 27 0) = .error .badValue ∧
    (∃ x, recordOfWords .pedal (0 :: word (5 + 3 * 16) :: List.replicate 27 0) = .ok (.pedal x)) ∧
    recordOfWords .pedal (0 :: word (5 + 4 * 16) :: List.replicate 27 0) = .error .badValue := by
  refine ⟨?_, rfl, ⟨_, rfl⟩, rfl, ⟨_, rfl⟩, rfl⟩
  intro r h
  simp only [List.mem_cons, List.not_mem_nil, or_false] at h
  rcases h with rfl | rfl | rfl | rfl | rfl | rfl <;> exact ⟨_, rfl⟩

/-- The rig with a full queue on a port. -/
def full (p : Port) : Part :=
  rig.updLink p fun l => { l with queue := List.replicate 32 { frame := .clock, entry := none } }

/-- A full queue on a CONSOLE port, and on the MODULE port of a key-down that one zone takes. -/
theorem test_full_queues_are_met :
    (full 2).OneZone 0 60 700 [] zone [] 72 2 ∧ (full 2).Untouched 0 60 2 1 72 ∧ (full 2).isUp 2 = true ∧
    (full 2).kept 2 < ((full 2).moduleFields 2).voiceBudget ∧ (full 2).isSettling 2 = false ∧ ¬(full 2).HasRoom 2 ∧
    (full 8).role 8 = .console ∧ (full 8).isUp 8 = true ∧ ¬(full 8).HasRoom 8 := by
  refine ⟨⟨⟨_, rfl, rfl⟩, by decide, by decide, by decide, ⟨2, by decide⟩⟩, ?_⟩
  unfold Part.Untouched Part.HasRoom
  decide

/-- Port records: another role for a port in UP and for one that is not, the same role, and MODULE records that cut the kept
notes, change the backup of a module that is out, and return one that waits. -/
theorem test_port_records_are_met :
    PortRecord.role .off ≠ rig.role 2 ∧ PortRecord.role .controller ≠ rig.role 1 ∧
    PortRecord.role (.console false) = rig.role 8 ∧ rig.port 3 = .modulePort .default ∧ rig.SubstitutesHold ∧
    (let s := withNotes rig [note 0 40 .sounding, note 1 41 .sounding]
     s.kept 2 = 2 ∧ s.NamesHold ∧ 1 < s.kept 2) ∧
    (moduleIn .out).isOut 2 = true ∧ (rig.moduleFields 2).backup ≠ ModuleFields.default.backup ∧
    ((moduleIn .waiting).module 2).state = .waiting := by
  unfold Part.NamesHold Part.SubstitutesHold; decide

/-- A port in UP of each role that another role replaces, with a drain and without; a drain that its module takes along. -/
theorem test_role_changes_are_met :
    (∀ p ∈ [(0 : Port), 2, 6, 8, 10], PortRecord.role .off ≠ rig.role p ∧ rig.isUp p = true ∧
      ∃ w, exec (.carrierLost p) { part := rig, pending := [] } = .next { part := w, pending := [] }) ∧
    (let w := after (.carrierLost 0) (draining [note 0 60 (.owed .restart 0)])
     rig.console.drain = none ∧ w.console.drain ≠ none ∧ w.notes.entries ≠ []) ∧
    (∀ e ∈ (draining [note 0 60 (.owed .restart 0)]).notes.entries, e.dest = 2 ∧ e.isOwed = true) := by
  refine ⟨?_, by decide +kernel, by decide⟩
  intro p h
  simp only [List.mem_cons, List.not_mem_nil, or_false] at h
  rcases h with rfl | rfl | rfl | rfl | rfl <;> exact ⟨by decide, by decide, _, rfl⟩

/-- R29, R40: of two of a kind the budget cut takes the older. -/
theorem test_budget_cut :
    let s := withNotes rig [note 0 40 .sounding, note 1 41 .sounding]
    (s.writePort 2 (.modulePort { ModuleFields.default with voiceBudget := 1 })).notes.entries.map Entry.state =
      [.owed .budgetCut 0, .sounding] := by decide +kernel

/-- The rig in a song of two scenes, which the request of word 2 = 259 (SCENE AT 1) names the second of. -/
def inSong (t : Transport) : Part :=
  { rig with
    tables := { rig.tables with
      setlist := { count := 1, places := List.replicate 64 0 }
      songs := rig.tables.songs.set 0 { SongRecord.default with sceneCount := 2 } }
    setlist := { rig.setlist with place := some { song := 0, scene := 0 } }
    tempo := { rig.tempo with transport := t } }

theorem test_selects_are_met :
    ∃ a, selectArgs [259, 0] = some a ∧ (inSong .stopped).resolveTarget a.target = some (.scene 1) ∧
      (inSong .stopped).clampScene 0 1 = 1 ∧ (inSong .stopped).alreadyAt (.scene 1) = false ∧
      (inSong .stopped).alreadyAt (.scene 0) = true ∧ a.boundary = .immediate ∧ rig.resolveTarget a.target = none ∧
      (inSong .running).tempo.transport ≠ .stopped := ⟨_, rfl, by decide⟩

/-- A pending request of the middle priority, behind a SELECT of the same and of a lower one. -/
theorem test_select_replaces_is_met :
    ∃ a b, selectArgs [259 + 16 + 128, 0] = some a ∧ selectArgs [259 + 16 + 64, 0] = some b ∧ 2 ≤ a.priority ∧ b.priority < 2 ∧
      a.boundary ≠ .immediate ∧ (inSong .stopped).TakesAlone (.scene 1) ∧ (inSong .stopped).TakesAlone (.song 0 none) :=
  ⟨_, _, rfl, rfl, by decide, by decide, by decide, by unfold Part.TakesAlone; decide, by unfold Part.TakesAlone; decide⟩

/-- A module that waits with policy NEXT SONG at a song entry, and one with NEXT SCENE at a scene entry. -/
theorem test_returns_at_entries_are_met :
    ∀ x ∈ [(ReturnPolicy.nextSong, Resolved.song 0 none), (.nextScene, .scene 1)],
      let s := { inSong .stopped with
        tables := { (inSong .stopped).tables with
          ports := upd ports 2 fun _ => .modulePort { ModuleFields.default with returnPolicy := x.1 } }
        watch := (moduleIn .waiting).watch }
      s.TakesAlone x.2 ∧ s.role 2 = .modulePort ∧ (s.module 2).state = .waiting ∧ (s.moduleFields 2).returnPolicy = x.1 ∧
      x.2.isSong = decide (x.1 = .nextSong) := by
  intro x h
  simp only [List.mem_cons, List.not_mem_nil, or_false] at h
  rcases h with rfl | rfl <;> unfold Part.TakesAlone <;> decide

theorem test_select_waits_is_met :
    ∃ a, selectArgs [259 + 16, 0] = some a ∧ a.boundary ≠ .immediate ∧
      ∀ old : PendingChange, old.priority = a.priority + 1 → a.priority < old.priority :=
  ⟨_, rfl, by decide, fun _ h => by omega⟩

/-- CURRENT with a SOUNDING entry and a LIVE PRIOR with another keep the laws of generations. -/
theorem test_generations_are_met :
    let s := withNotes (inSong .stopped) [{ note 0 60 .sounding with gen := 255 }, note 1 62 .sounding]
    ({ s with scene := { s.scene with
      prior := some { number := 255, position := 0, place := none, zones := [zone], presets := [] } } }).GenerationsHold := by
  unfold Part.GenerationsHold; decide

theorem test_console_transport_is_met :
    (∀ x ∈ [(Transport.stopped, 1), (.running, 1), (.countingIn count, 1), (.stopped, 0)],
      (playing x.1 x.2).tempo.followSong = false ∧ (playing x.1 x.2).tempo.transport = x.1 ∧
      (playing x.1 x.2).tempo.tick = x.2 ∧ (playing x.1 x.2).setlist.pending = none ∧ (playing x.1 x.2).dueCue = none) ∧
    (following .running 1).tempo.followSong = true ∧
    (inSong .running).halted.TakesAlone (.scene 1) ∧ (inSong .running).halted.TakesAlone (.song 0 none) := by
  unfold Part.TakesAlone; decide

/-- A trigger of each other action fires alone; a SUSTAIN trigger that is held comes back into conformity, with its hold and
without. -/
theorem test_actions_are_met :
    (∀ a ∈ [TriggerAction.sustain, .startStop, .panic, .cueStop, .nextSong, .prevSong, .nextScene, .prevScene, .songAt,
        .sceneAt],
      (pedals a true).MovesAlone 254 0 true false ∧ ((pedals a true).trigger 0).action = a ∧
      boundaryOf ((pedals a true).trigger 0).boundary ((pedals a true).trigger 0).bar = some .immediate ∧
      ((pedals a true).trigger 0).parameter = (0 : Port).val) ∧
    (let s := pedals .sustain true
     let t := { s with tables := { s.tables with pedal := { s.tables.pedal with
       triggers := upd s.tables.pedal.triggers 0 fun r => { r with parameter := 12 } } } }
     t.MovesAlone 254 0 true false ∧ 12 ≤ (t.trigger 0).parameter) ∧
    (pedals .nextSong true).resolveTarget .nextSong = none ∧
    (pedals .sustain false).MovesAlone 254 0 false true ∧ (pedals .sustain false).pedal.held[(0 : Trigger)] = true ∧
    (pedals .sustain false).notes.holds[(0 : Trigger)] = none ∧
    (let s := pedals .sustain false
     ({ s with notes := { s.notes with holds := upd s.notes.holds 0 fun _ => some { port := 0, disregarded := false } } }
       ).notes.holds[(0 : Trigger)] = some { port := 0, disregarded := false }) := by
  unfold Part.MovesAlone; decide

theorem test_module_requests_are_met :
    (2 : Word).toNat % 16 = (2 : Port).val ∧ (2 : BitVec 4).toNat = (2 : Port).val ∧ rig.role 0 ≠ .modulePort ∧
    (∀ st ∈ states, ((moduleIn st).module 2).state = st ∧ (moduleIn st).role 2 = .modulePort) ∧
    ((moduleIn .out).module 2).reasons.commanded = true ∧ ((moduleIn .active).module 2).reasons.commanded = false ∧
    (((moduleIn .barred).updLink 2 fun l => { l with phase := .down }).isUp 2) = false := by decide

theorem test_panic_is_met :
    let s := { rig with click := { rig.click with cue := some { number := 7, timer := 1100000 } } }
    s.RoomFor (s.click.cue.elim [] fun c =>
      ((List.finRange 12).filter fun q => s.isUp q && s.role q == .band).map fun q =>
        (q, { frame := .cue false c.number, entry := none })) := by
  unfold Part.RoomFor; decide

/-! ### The laws hold of a rig in play -/

theorem test_laws_are_met :
    let s := withNotes rig [note 0 60 .sounding, note 1 62 (.owed .keyUp 4)]
    s.QueuesHold ∧ s.StartHolds ∧ s.TableHolds ∧ s.NamesHold ∧ s.NotesDistinct ∧ s.GenerationsHold ∧ s.ServiceHolds ∧
      s.SubstitutesHold ∧ s.BudgetsHold := by
  unfold Part.QueuesHold Part.StartHolds Part.TableHolds Part.NamesHold Part.NotesDistinct Part.GenerationsHold
    Part.ServiceHolds Part.SubstitutesHold Part.BudgetsHold
  exact ⟨by decide, by decide, by decide, by decide, by decide, by decide, by decide, by decide, by decide⟩

theorem test_stored_laws_are_met : rig.Stored Tables.LimitsOk ∧ rig.Stored Tables.TimesOk := by
  refine ⟨⟨?_, trivial⟩, ⟨fun n => ?_, trivial⟩⟩
  · intro p
    have : ∀ p : Port, rig.tables.ports[p] = ports[p] := fun _ => rfl
    rw [this]
    revert p
    unfold PortRecord.LimitsOk
    exact fun
      | 0 | 1 | 4 | 5 | 6 | 7 | 8 | 9 | 10 | 11 => trivial
      | 2 | 3 => ⟨by decide, by decide, by decide, by decide⟩
  · have : rig.tables.songs[n] = SongRecord.default := by simp [rig, Tables.default]
    rw [this]
    unfold SongRecord.TimesOk
    decide

/-- A command of each kind answers from the rig, so that the laws' second hypothesis is met. -/
theorem test_steps_answer :
    (∃ t, step (of rig) = .next t) ∧ (∃ t, exec (.emissionChoice 2) (of rig) = .next t) ∧
    ∃ t, step { of rig with pending := [.panic 8 0] } = .next t := ⟨⟨_, rfl⟩, ⟨_, rfl⟩, ⟨_, rfl⟩⟩

end Sys2Proof.Machine.Tests
end

section
/-!
PROOFS. ZONE's transforms: the sent strike of R9 and the sent key of R10.
-/

namespace Sys2Proof.Machine

/-! ### The strike transform (R9) -/

/-- A curve output lies between the two points it interpolates. -/
theorem interpolation_between {a b f : Int} (h0 : 0 ≤ f) (h1 : f ≤ 127) :
    min a b ≤ a + ((b - a) * f + 64) / 128 ∧ a + ((b - a) * f + 64) / 128 ≤ max a b := by
  rcases Int.le_total a b with h | h
  · have hlow : 0 ≤ (b - a) * f := Int.mul_nonneg (by omega) h0
    have hhigh : (b - a) * f ≤ (b - a) * 127 := Int.mul_le_mul_of_nonneg_left h1 (by omega)
    omega
  · have hlow : (a - b) * f ≤ (a - b) * 127 := Int.mul_le_mul_of_nonneg_left h1 (by omega)
    have hhigh : 0 ≤ (a - b) * f := Int.mul_nonneg (by omega) h0
    have hneg : (b - a) * f = -((a - b) * f) := by rw [← Int.neg_mul, Int.neg_sub]
    omega

/-- The two points of a curve around an input strike, and the output as R9 writes it. -/
theorem Curve.apply_between (curve : Curve) {strike : Nat} (h : strike ≤ 1023) :
    ∃ a ∈ curve.toList[strike / 128]?, ∃ b ∈ curve.toList[strike / 128 + 1]?,
      curve.apply strike = a + Int.fdiv (((b : Int) - a) * ((strike - 128 * (strike / 128) : Nat) : Int) + 64) 128 ∧
      min (a : Int) b ≤ curve.apply strike ∧ curve.apply strike ≤ max (a : Int) b := by
  have hlen : curve.toList.length = 9 := by simp
  have hi : strike / 128 < curve.toList.length := by omega
  have hj : strike / 128 + 1 < curve.toList.length := by omega
  refine ⟨_, List.getElem?_eq_getElem hi, _, List.getElem?_eq_getElem hj, ?_⟩
  have happly : curve.apply strike = (curve.toList[strike / 128] : Int) +
      (((curve.toList[strike / 128 + 1] : Int) - curve.toList[strike / 128]) *
        ((strike - 128 * (strike / 128) : Nat) : Int) + 64) / 128 := by
    simp only [Curve.apply, List.getD_eq_getElem?_getD, List.getElem?_eq_getElem hi, List.getElem?_eq_getElem hj,
      Option.getD_some]
  rw [happly, Int.fdiv_eq_ediv_of_nonneg _ (by decide)]
  exact ⟨rfl, interpolation_between (by omega) (by omega)⟩

/-- A curve output lies within 0-1023 where the points do. -/
theorem Curve.apply_range {curve : Curve} {strike : Nat} (h : strike ≤ 1023) (hy : ∀ y ∈ curve.toList, y ≤ 1023) :
    0 ≤ curve.apply strike ∧ curve.apply strike ≤ 1023 := by
  obtain ⟨a, ha, b, hb, -, hlow, hhigh⟩ := curve.apply_between h
  have ha' := hy a (List.mem_of_getElem? ha)
  have hb' := hy b (List.mem_of_getElem? hb)
  omega

theorem Part.curveOutput_curve {s : Part} {index : Nat} {curve : Curve}
    (h : s.tables.curves.toList[index]? = some curve) (strike : Nat) :
    s.curveOutput index strike = curve.apply strike := by simp [Part.curveOutput, h]

theorem Part.curveOutput_identity (s : Part) (strike : Nat) : s.curveOutput 8 strike = strike := by
  simp [Part.curveOutput]

/-- The curve stage stays within 0-1023 (R9). -/
theorem Part.curveOutput_range {s : Part} {index strike : Nat} (hindex : index ≤ 8) (h : strike ≤ 1023)
    (hy : ∀ c ∈ s.tables.curves.toList, ∀ y ∈ c.toList, y ≤ 1023) :
    0 ≤ s.curveOutput index strike ∧ s.curveOutput index strike ≤ 1023 := by
  rcases hcurve : s.tables.curves.toList[index]? with _ | curve
  · have : index = 8 := by simp at hcurve; omega
    rw [this, s.curveOutput_identity]
    omega
  · rw [Part.curveOutput_curve hcurve]
    exact Curve.apply_range h (hy curve (List.mem_of_getElem? hcurve))

/-- The gain stage of R9 stays within its ranges. -/
theorem gained_range {c : Int} {gain : Nat} {offset : Int} (hc0 : 0 ≤ c) (hc : c ≤ 1023) (hgain : gain ≤ 127)
    (hlow : -512 ≤ offset) (hhigh : offset ≤ 511) :
    c * gain ≤ 129921 ∧ -512 ≤ (c * gain + 32) / 64 + offset ∧ (c * gain + 32) / 64 + offset ≤ 2541 := by
  have hle : c * gain ≤ 1023 * 127 := Int.mul_le_mul hc (by omega) (by omega) (by decide)
  have hnonneg : 0 ≤ c * gain := Int.mul_nonneg hc0 (by omega)
  omega

theorem clampInt_eq_max_min {a b : Int} (h : a ≤ b) (x : Int) : clampInt a b x = max a (min b x) := by
  unfold clampInt
  split
  · omega
  · split <;> omega

/-- Settles O17: the stages of the model are those of R9, and each stays within its range. -/
theorem sentStrikeFollowsR9 : Obligations.SentStrikeFollowsR9 := by
  intro s z strike hlow hhigh hindex hgain hofflow hoffhigh hy
  obtain ⟨hc0, hc⟩ := Part.curveOutput_range (s := s) hindex hhigh hy
  obtain ⟨hproduct, hglow, hghigh⟩ := gained_range hc0 hc hgain hofflow hoffhigh
  refine ⟨s.curveOutput z.curve strike, (s.curveOutput z.curve strike * z.gain + 32) / 64 + z.offset, ?_, ?_, hc0, hc,
    hproduct, ?_, hglow, hghigh, ?_⟩
  · intro hz
    rw [hz, s.curveOutput_identity]
  · intro curve hcurve
    obtain ⟨a, ha, b, hb, heq, hmin, hmax⟩ := curve.apply_between hhigh
    rw [Part.curveOutput_curve hcurve]
    exact ⟨a, ha, b, hb, by omega, by omega, heq, by omega, by omega⟩
  · rw [Int.fdiv_eq_ediv_of_nonneg _ (by decide)]
  · have hpos := le_clampInt (x := (s.curveOutput z.curve strike * z.gain + 32) / 64 + z.offset)
      (show (1 : Int) ≤ 1023 by decide)
    rw [Part.sentStrike, Int.toNat_of_nonneg (by omega), clampInt_eq_max_min (by decide)]

/-! ### The key transform (R10) -/

/-- The sent key of a transposed key within 0-127. -/
theorem ZoneRecord.sentKey_within {z : ZoneRecord} {key : Nat} (h : 0 ≤ (key : Int) + z.transpose)
    (h' : (key : Int) + z.transpose ≤ 127) : z.sentKey key = some ((key : Int) + z.transpose).toNat := by
  simp [ZoneRecord.sentKey, h, h']

/-- The sent key of a transposed key outside 0-127: folded under FOLD, none under DROP. -/
theorem ZoneRecord.sentKey_outside {z : ZoneRecord} {key : Nat}
    (h : ¬(0 ≤ (key : Int) + z.transpose ∧ (key : Int) + z.transpose ≤ 127)) :
    z.sentKey key = if z.fold then some (foldKey ((key : Int) + z.transpose)).toNat else none := by
  simp only [ZoneRecord.sentKey, if_neg h]

/-- Above the range, a key folds down by twelves to the first key within it. -/
theorem foldKey_above {k : Int} (h : 127 < k) :
    foldKey k = k - 12 * ((k - 116) / 12) ∧ 116 ≤ foldKey k ∧ foldKey k ≤ 127 := by
  have hfold : foldKey k = 116 + (k - 116) % 12 := by simp [foldKey, h, show ¬k < 0 by omega]
  omega

/-- Below the range, a key folds up by twelves to the first key within it. -/
theorem foldKey_below {k : Int} (h : k < 0) :
    foldKey k = k + 12 * -(k / 12) ∧ 0 ≤ foldKey k ∧ foldKey k ≤ 11 := by
  have hfold : foldKey k = k % 12 := by simp [foldKey, h]
  omega

/-- Settles O18, by where the transposed key lies. -/
theorem sentKeyFollowsR10 : Obligations.SentKeyFollowsR10 := by
  intro z key hkey hlow hhigh k
  refine ⟨by omega, by omega, ?_, ?_, ?_, ?_⟩
  · intro hwithin
    rw [ZoneRecord.sentKey_within hwithin.1 hwithin.2]
    simp only [Option.map_some, Int.ofNat_eq_natCast, Option.some.injEq]
    omega
  · intro houtside hdrop
    rw [ZoneRecord.sentKey_outside houtside, hdrop]
    rfl
  · intro habove hfold
    obtain ⟨heq, hmin, hmax⟩ := foldKey_above habove
    refine ⟨((k - 116) / 12).toNat, (foldKey k).toNat, ?_, by omega, by omega, by omega, by omega⟩
    rw [ZoneRecord.sentKey_outside (by omega), if_pos hfold]
    rfl
  · intro hbelow hfold
    obtain ⟨heq, hmin, hmax⟩ := foldKey_below hbelow
    refine ⟨(-(k / 12)).toNat, (foldKey k).toNat, ?_, by omega, by omega, by omega⟩
    rw [ZoneRecord.sentKey_outside (by omega), if_pos hfold]
    rfl

end Sys2Proof.Machine
end

section
/-!
PROOFS. Frames of CONTROLLER ports, items that find room in the queues, and what ZONE routes: pressures (R15) and controls
(R16 to R18).
-/

namespace Sys2Proof.Machine

/-! ### Lists and conditions -/

theorem ite_eq_of_iff {α : Type} {p q : Prop} [Decidable p] [Decidable q] (h : p ↔ q) (a b : α) :
    (if p then a else b) = if q then a else b := by simp only [h]

theorem map_eq_self {α : Type} {f : α → α} {xs : List α} (h : ∀ x ∈ xs, f x = x) : xs.map f = xs :=
  (List.map_congr_left h).trans (List.map_id xs)

/-- Tests that agree on a list find the same element of it. -/
theorem find?_eq_of_agree {α : Type} {p q : α → Bool} {xs : List α} (h : ∀ x ∈ xs, p x = q x) :
    xs.find? p = xs.find? q := by
  induction xs with
  | nil => rfl
  | cons x xs ih =>
    rw [List.find?_cons, List.find?_cons, h x List.mem_cons_self, ih fun y hy => h y (List.mem_cons_of_mem x hy)]

theorem not_mem_of_nodup_middle {α : Type} {xs ys : List α} {x : α} (h : (xs ++ x :: ys).Nodup) : x ∉ xs ++ ys := by
  obtain ⟨-, hys, hdisjoint⟩ := List.nodup_append.mp h
  intro hx
  rcases List.mem_append.mp hx with hxs | hx
  · exact hdisjoint x hxs x List.mem_cons_self rfl
  · exact (List.nodup_cons.mp hys).1 hx

/-! ### Commands of a CONTROLLER port in UP (R7, R170) -/

theorem Part.isUp_iff {s : Part} {p : Port} : s.isUp p = true ↔ (s.link p).phase = .up := by simp [Part.isUp]

/-- A frame of a CONTROLLER port in UP is taken by its body. -/
theorem State.act_accept_controller {s : State} {p : Port} (body : Part → Part) (hup : s.part.isUp p = true)
    (hrole : s.part.role p = .controller) :
    (s.act fun t => t.accept p .controller body) = .next (s.becomes (body s.part)) := by
  rw [State.act_eq, Part.accept_up body (Part.isUp_iff.mp hup) hrole]
  rfl

theorem exec_keyDown {s : State} {p : Port} (key : BitVec 7) (strike : BitVec 10) (hup : s.part.isUp p = true)
    (hrole : s.part.role p = .controller) :
    exec (.keyDown p key strike) s = .next (s.becomes (s.part.zoneKeyDown p key.toNat strike.toNat)) :=
  State.act_accept_controller _ hup hrole

theorem exec_pressure {s : State} {p : Port} (key : BitVec 7) (value : BitVec 10) (hup : s.part.isUp p = true)
    (hrole : s.part.role p = .controller) :
    exec (.pressure p key value) s = .next (s.becomes (s.part.zonePressure p key.toNat value.toNat)) :=
  State.act_accept_controller _ hup hrole

theorem exec_control {s : State} {p : Port} (controller : BitVec 8) (value : BitVec 10) (hup : s.part.isUp p = true)
    (hrole : s.part.role p = .controller) :
    exec (.control p controller value) s =
      .next (s.becomes (s.part.zoneControl p controller.toNat value.toNat)) :=
  State.act_accept_controller _ hup hrole

theorem exec_sustain {s : State} {p : Port} (value : BitVec 10) (hup : s.part.isUp p = true)
    (hrole : s.part.role p = .controller) :
    exec (.sustain p value) s = .next (s.becomes (s.part.sustainEvent p value.toNat)) :=
  State.act_accept_controller _ hup hrole

/-! ### Frames that find room (R171) -/

/-- Two parts that agree on every link have the same links. -/
theorem Part.links_ext {s t : Part} (h : ∀ q : Port, s.link q = t.link q) : s.links = t.links :=
  Vector.ext fun i hi => h ⟨i, hi⟩

@[simp] theorem Part.link_plusItems (s : Part) (its : List (Port × QueueItem)) (q : Port) :
    (s.plusItems its).link q =
      { s.link q with queue := (s.link q).queue ++ (its.filter fun x => x.1 == q).map Prod.snd } := by
  simp [Part.plusItems, Part.link]

theorem Part.plusItems_nil (s : Part) : s.plusItems [] = s := by
  have hlinks : (s.plusItems []).links = s.links := Part.links_ext fun q => by simp
  calc s.plusItems [] = { s with links := (s.plusItems []).links } := rfl
    _ = s := by rw [hlinks]

/-- The first of several items joins before the others. -/
theorem Part.plusItems_cons (s : Part) (p : Port) (it : QueueItem) (its : List (Port × QueueItem)) :
    s.plusItems ((p, it) :: its) = (s.updLink p fun l => { l with queue := l.queue ++ [it] }).plusItems its := by
  have hlinks : (s.plusItems ((p, it) :: its)).links =
      ((s.updLink p fun l => { l with queue := l.queue ++ [it] }).plusItems its).links := Part.links_ext fun q => by
    by_cases h : p = q
    · subst h; simp
    · simp [h]
  calc s.plusItems ((p, it) :: its) = { s with links := (s.plusItems ((p, it) :: its)).links } := rfl
    _ = _ := by rw [hlinks]; rfl

/-- An item offered to a queue with room joins its young end (R171). -/
theorem Part.offerItem_room {s : Part} {p : Port} (it : QueueItem) (h : s.HasRoom p) :
    s.offerItem p it = (s.updLink p fun l => { l with queue := l.queue ++ [it] }, true) := by
  have henqueue : s.enqueue p it = (s.updLink p fun l => { l with queue := l.queue ++ [it] }, true) := if_pos h
  simp [Part.offerItem, henqueue]

/-- What has room for several items has room for the first of them. -/
theorem Part.RoomFor.head {s : Part} {p : Port} {it : QueueItem} {its : List (Port × QueueItem)}
    (h : s.RoomFor ((p, it) :: its)) : s.HasRoom p := by
  obtain ⟨hup, hlen⟩ := h
  have hlen := hlen p
  simp only [beq_self_eq_true, List.filter_cons_of_pos, List.length_cons] at hlen
  exact ⟨Part.isUp_iff.mp (hup _ (List.mem_cons_self ..)), by omega⟩

/-- Once the first of several items has joined, there is room for the others. -/
theorem Part.RoomFor.tail {s : Part} {p : Port} {it : QueueItem} {its : List (Port × QueueItem)}
    (h : s.RoomFor ((p, it) :: its)) :
    (s.updLink p fun l => { l with queue := l.queue ++ [it] }).RoomFor its := by
  obtain ⟨hup, hlen⟩ := h
  refine ⟨fun x hx => ?_, fun q => ?_⟩
  · have hx' := hup x (List.mem_cons_of_mem _ hx)
    rw [Part.isUp_iff] at hx' ⊢
    rw [Part.link_updLink]
    split
    · next heq => rw [heq]; exact hx'
    · exact hx'
  · have hq := hlen q
    by_cases hpq : p = q
    · subst hpq
      simp only [beq_self_eq_true, List.filter_cons_of_pos, List.length_cons] at hq
      simp only [Part.link_updLink, if_true, List.length_append, List.length_cons, List.length_nil]
      omega
    · simpa [hpq] using hq

/-- Items offered one after the other to queues that have room for all of them join in their order (R171). -/
theorem Part.foldl_offerItem_room {its : List (Port × QueueItem)} {s : Part} (h : s.RoomFor its) :
    its.foldl (fun t x => (t.offerItem x.1 x.2).1) s = s.plusItems its := by
  induction its generalizing s with
  | nil => exact s.plusItems_nil.symm
  | cons x its ih =>
    obtain ⟨p, it⟩ := x
    rw [List.foldl_cons, Part.offerItem_room it h.head, ih h.tail, Part.plusItems_cons]

/-! ### Destinations (R11) -/

theorem Part.resolve_eq_leadsTo (s : Part) (n : Nat) : s.resolve n = s.leadsTo n := by
  unfold Part.resolve Part.leadsTo
  rcases portOf n with _ | d
  · rfl
  · by_cases hrole : s.role d = .modulePort <;> simp [hrole]

/-! ### Pressure (R15) -/

theorem Part.takesPressure_eq (s : Part) (p : Port) (key : Nat) (e : Entry) :
    s.takesPressure p key e =
      (e.srcPort == p && e.srcKey == key && e.isSounding && (s.zoneOf e).any ZoneRecord.pressurePass) := by
  unfold Part.takesPressure
  cases s.zoneOf e <;> rfl

/-- Settles O24: a pressure is one offer for each entry that takes it. -/
theorem pressureGoesToSoundingEntries : Obligations.PressureGoesToSoundingEntries := by
  intro p key value s hup hrole frames hroom
  rw [exec_pressure key value hup hrole, ← Part.foldl_offerItem_room hroom]
  simp only [frames, List.foldl_map, Part.zonePressure, Part.offer, funext (s.part.takesPressure_eq p key.toNat)]

/-! ### Controls (R16 to R18) -/

/-- Leaving elements out and keeping first occurrences do not look at each other. -/
theorem distinct_filter (keep : Port × Nat → Bool) (xs : List (Port × Nat)) :
    distinct (xs.filter keep) = (distinct xs).filter keep := by
  induction xs with
  | nil => rfl
  | cons x xs ih =>
    by_cases hx : keep x = true
    · simp only [List.filter_cons_of_pos hx, distinct, ih, List.filter_filter, Bool.and_comm]
    · simp only [List.filter_cons_of_neg hx, distinct, ih, List.filter_filter]
      refine List.filter_congr fun y _ => ?_
      by_cases hyx : y = x
      · subst hyx; simpa using hx
      · simp [hyx]

/-- Keeping each pair at its first occurrence erases the duplicates (R17). -/
theorem distinct_eq_eraseDups (xs : List (Port × Nat)) : distinct xs = xs.eraseDups := by
  induction hn : xs.length using Nat.strongRecOn generalizing xs with
  | _ n ih =>
    cases xs with
    | nil => rfl
    | cons x xs =>
      have hshorter : (xs.filter fun y => !y == x).length < n := by
        have := xs.length_filter_le fun y => !y == x
        rw [← hn, List.length_cons]
        omega
      rw [List.eraseDups_cons, ← ih _ hshorter _ rfl, distinct_filter]
      rfl

theorem Part.controlCandidates_eq (s : Part) (p : Port) (n : Nat) :
    s.controlCandidates p n =
      (s.scene.current.elim [] fun g => g.zones.filter fun z => z.hears p && z.passes n) ++
      s.scene.prior.elim [] fun g =>
        (g.zones.zipIdx.filter fun x => x.1.hears p && x.1.passes n && s.ownsRinging g.number x.2).map Prod.fst := by
  unfold Part.controlCandidates
  cases s.scene.current <;> cases s.scene.prior <;> rfl

/-- Settles O25: the candidates are those of R16, their distinct destinations those of R17, and each is one offer. -/
theorem controlGoesToItsZones : Obligations.ControlGoesToItsZones := by
  intro p controller value s hup hrole n passes current prior goesTo frames hroom
  have hpasses (z : ZoneRecord) : (z.hears p && z.passes n) = passes z := by
    simp only [passes, ZoneRecord.hears, ZoneRecord.passes]
    cases z.filterMode <;> rfl
  have hcandidates : s.part.controlCandidates p n = current ++ prior := by
    simp only [s.part.controlCandidates_eq, hpasses]
    rfl
  rw [exec_control controller value hup hrole, ← Part.foldl_offerItem_room hroom]
  simp only [frames, List.foldl_map, Part.zoneControl, Part.offer, distinct_eq_eraseDups, Part.resolve_eq_leadsTo]
  rw [← hcandidates]

end Sys2Proof.Machine
end

section
/-!
PROOFS. Offers, notices and flags as statements write them (R171, R194, R195), and the links they leave alone.
-/

namespace Sys2Proof.Machine

/-! ### Offers, notices and flags as statements write them (R171, R194, R195) -/

theorem allPorts_eq_finRange : allPorts = List.finRange 12 := by decide

/-- The ports that hear a notice, as statements list them. -/
theorem Part.hears_eq (s : Part) (k : NoticeKind) :
    s.hears k = fun q => s.isUp q && s.role q == .console && s.console.masks[q].getLsbD k.code.val := rfl

/-- A notice is one offer for each port that hears it. -/
theorem Part.notice_eq_offers (s : Part) (k : NoticeKind) (data : List Word) :
    s.notice k data = (s.notices k data).foldl (fun t x => (t.offerItem x.1 x.2).1) s := by
  rw [Part.notice, Part.notices, List.foldl_map, allPorts_eq_finRange]
  rfl

/-- A quiet notice is one offer without a flag for each port that hears it. -/
theorem Part.noticeQuiet_eq_enqueues (s : Part) (k : NoticeKind) (data : List Word) :
    s.noticeQuiet k data = (s.notices k data).foldl (fun t x => (t.enqueue x.1 x.2).1) s := by
  rw [Part.noticeQuiet, Part.notices, List.foldl_map, allPorts_eq_finRange]
  rfl

/-- Without a flag to raise, items find room as they do with one (R171). -/
theorem Part.foldl_enqueue_room {its : List (Port × QueueItem)} {s : Part} (h : s.RoomFor its) :
    its.foldl (fun t x => (t.enqueue x.1 x.2).1) s = s.plusItems its := by
  induction its generalizing s with
  | nil => exact s.plusItems_nil.symm
  | cons x its ih =>
    obtain ⟨p, it⟩ := x
    have hfirst : s.enqueue p it = (s.updLink p fun l => { l with queue := l.queue ++ [it] }, true) := if_pos h.head
    rw [List.foldl_cons, hfirst, ih h.tail, Part.plusItems_cons]

theorem Part.Told.offered {ok : QueueItem → Prop} {s t : Part} {its : List (Port × QueueItem)}
    (h : Part.Told ok s t) (hroom : s.RoomFor its → t = s.plusItems its) : s.Offered t its :=
  ⟨h.reported, hroom⟩

theorem Part.offered_nothing (s : Part) : s.Offered s [] :=
  (Part.Told.rfl' (ok := fun _ => True) s).offered fun _ => s.plusItems_nil.symm

theorem Part.offered_notice (s : Part) (k : NoticeKind) (data : List Word) :
    s.Offered (s.notice k data) (s.notices k data) :=
  (s.told_notice allowsAll k data).offered fun hroom => by
    rw [s.notice_eq_offers, Part.foldl_offerItem_room hroom]

theorem Part.offered_noticeQuiet (s : Part) (k : NoticeKind) (data : List Word) :
    s.Offered (s.noticeQuiet k data) (s.notices k data) :=
  (s.told_noticeQuiet allowsAll k data).offered fun hroom => by
    rw [s.noticeQuiet_eq_enqueues, Part.foldl_enqueue_room hroom]

theorem Part.flagWord_eq_flagsLayout (s : Part) : s.flagWord = s.flagsLayout := by
  unfold Part.flagWord Part.flagsLayout Flags.value
  cases s.console.cause <;> simp [ResetCause.code, at_, bitAt, weight]

/-- A raised flag is raised again to no effect (R194). -/
theorem Part.withFlag_of_has {s : Part} {f : Flag} (h : s.console.flags.has f = true) : s.withFlag f = s := by
  have hflags : s.console.flags.add f = s.console.flags := by
    cases hs : s.console.flags
    cases f <;> simp_all [Flags.add, Flags.has]
  simp [Part.withFlag, hflags]

theorem Part.raiseWith_of_has {tell : Part → NoticeKind → List Word → Part} {s : Part} {f : Flag}
    (h : s.console.flags.has f = true) : s.raiseWith tell f = s := by simp [Part.raiseWith, h]

theorem Part.raiseWith_of_not_has {tell : Part → NoticeKind → List Word → Part} {s : Part} {f : Flag}
    (h : ¬s.console.flags.has f = true) :
    s.raiseWith tell f = tell (s.withFlag f) .flagRaised [word f.number, (s.withFlag f).flagsLayout] := by
  rw [← Part.flagWord_eq_flagsLayout]
  simp only [Part.raiseWith, if_neg h]
  rfl

/-- A flag raised offers its notice, however the notice is told. -/
theorem Part.offered_raiseWith {tell : Part → NoticeKind → List Word → Part}
    (htell : ∀ (s : Part) (k : NoticeKind) (data : List Word), s.Offered (tell s k data) (s.notices k data)) (s : Part)
    (f : Flag) : (s.withFlag f).Offered (s.raiseWith tell f) (s.flagNotices f) := by
  by_cases h : s.console.flags.has f = true
  · rw [Part.raiseWith_of_has h, Part.withFlag_of_has h, Part.flagNotices, if_pos h]
    exact s.offered_nothing
  · rw [Part.raiseWith_of_not_has h, Part.flagNotices, if_neg h]
    exact htell _ _ _

theorem Part.offered_raise (s : Part) (f : Flag) : (s.withFlag f).Offered (s.raise f) (s.flagNotices f) :=
  Part.offered_raiseWith Part.offered_notice s f

theorem Part.offered_raiseOverflow (s : Part) :
    (s.withFlag .queueOverflow).Offered s.raiseOverflow (s.flagNotices .queueOverflow) :=
  Part.offered_raiseWith Part.offered_noticeQuiet s .queueOverflow

/-! ### Notices leave the other ports alone (R195) -/

/-- Steps that each keep the roles and the link of a port keep its link together. -/
theorem Part.link_foldl {f : Part → Port → Part} {q : Port} {ps : List Port} {s : Part}
    (hlink : ∀ t : Part, t.role q ≠ .console → ∀ p ∈ ps, (f t p).link q = t.link q)
    (htables : ∀ (t : Part) (p : Port), (f t p).tables = t.tables) (hrole : s.role q ≠ .console) :
    (ps.foldl f s).link q = s.link q := by
  induction ps generalizing s with
  | nil => rfl
  | cons p ps ih =>
    have hrole' : (f s p).role q ≠ .console := by rwa [Part.role_congr (htables s p)]
    rw [List.foldl_cons, ih (fun t ht r hr => hlink t ht r (List.mem_cons_of_mem _ hr)) hrole']
    exact hlink s hrole p (List.mem_cons_self ..)

/-- Who hears a notice is a CONSOLE port. -/
theorem Part.role_of_hears {s : Part} {k : NoticeKind} {p : Port} (h : p ∈ allPorts.filter (s.hears k)) :
    s.role p = .console := by
  have hp := (List.mem_filter.mp h).2
  simp only [s.hears_eq, Bool.and_eq_true, beq_iff_eq] at hp
  exact hp.1.2

theorem Part.link_enqueue_of_ne {s : Part} {p q : Port} (it : QueueItem) (h : p ≠ q) :
    (s.enqueue p it).1.link q = s.link q := by
  rcases s.enqueue_cases p it with ⟨-, -, he⟩ | ⟨-, he⟩ <;> simp [he, h]

theorem Part.link_noticeQuiet {s : Part} {q : Port} (hrole : s.role q ≠ .console) (k : NoticeKind)
    (data : List Word) : (s.noticeQuiet k data).link q = s.link q :=
  Part.link_foldl
    (fun t _ _ hp => t.link_enqueue_of_ne _ fun hpq => hrole (hpq ▸ Part.role_of_hears hp))
    (fun t p => (t.told_enqueue (ok := fun _ => True) p _ trivial).tables) hrole

theorem Part.link_raiseWith {tell : Part → NoticeKind → List Word → Part} {q : Port}
    (htell : ∀ (s : Part) (k : NoticeKind) (data : List Word), s.role q ≠ .console → (tell s k data).link q = s.link q)
    {s : Part} (hrole : s.role q ≠ .console) (f : Flag) : (s.raiseWith tell f).link q = s.link q := by
  by_cases h : s.console.flags.has f = true
  · rw [Part.raiseWith_of_has h]
  · rw [Part.raiseWith_of_not_has h]
    exact htell _ _ _ hrole

theorem Part.link_offerItem_of_ne {s : Part} {p q : Port} (it : QueueItem) (h : p ≠ q)
    (hrole : s.role q ≠ .console) : (s.offerItem p it).1.link q = s.link q := by
  have hlink := s.link_enqueue_of_ne it h
  have htables := (s.told_enqueue (ok := fun _ => True) p it trivial).tables
  unfold Part.offerItem
  rcases he : s.enqueue p it with ⟨t, joined⟩
  rw [he] at hlink htables
  cases joined
  · dsimp only at hlink htables ⊢
    split
    · rw [← hlink]
      exact Part.link_raiseWith (fun u k data hu => u.link_noticeQuiet hu k data)
        (by rwa [Part.role_congr htables]) .queueOverflow
    · exact hlink
  · exact hlink

theorem Part.link_notice {s : Part} {q : Port} (hrole : s.role q ≠ .console) (k : NoticeKind) (data : List Word) :
    (s.notice k data).link q = s.link q :=
  Part.link_foldl
    (fun t ht _ hp => t.link_offerItem_of_ne _ (fun hpq => hrole (hpq ▸ Part.role_of_hears hp)) ht)
    (fun t p => (t.keeps_offer p _).1) hrole

/-- A flag raised leaves the link of every port but the CONSOLE ports as it was (R194, R195). -/
theorem Part.link_raise {s : Part} {q : Port} (hrole : s.role q ≠ .console) (f : Flag) :
    (s.raise f).link q = s.link q :=
  Part.link_raiseWith (fun u k data hu => u.link_notice hu k data) hrole f

end Sys2Proof.Machine
end

section
/-!
PROOFS. Key-downs (R8 to R12, R24, R26 to R32): each operation of NOTES is the one that statements write, and the items
of a key-down are taken one by one.
-/

namespace Sys2Proof.Machine

/-! ### Tables that keep their generations (R25, R50) -/

/-- A change that keeps generation numbers settles PRIOR no further. -/
theorem Part.setEntries_withEntries_map (s : Part) (es : List Entry) {f : Entry → Entry}
    (hf : ∀ e, (f e).gen = e.gen) : (s.withEntries es).setEntries (es.map f) = s.withEntries (es.map f) := by
  simp only [Part.withEntries, Part.setEntries, List.any_map, Function.comp_def, hf]

/-- PRIOR settled once for a table is settled. -/
theorem Part.withEntries_withEntries_self (s : Part) (es : List Entry) :
    (s.withEntries es).withEntries es = s.withEntries es := by
  unfold Part.withEntries
  rcases s.scene.prior with _ | g
  · rfl
  · by_cases h : es.any fun e => e.gen == g.number <;> simp [h]

@[simp] theorem Part.kept_withEntries_entries (s : Part) (d : Port) :
    (s.withEntries s.notes.entries).kept d = s.kept d := rfl

/-! ### Retrigger and collision (R26, R28) -/

theorem Part.retrigger_eq_retriggered (s : Part) (p : Port) (key : Nat) : s.retrigger p key = s.retriggered p key := by
  rw [Part.retrigger, Part.releaseEntries_eq, Part.deleteDeferred_eq, Part.entries_withEntries,
    Part.setEntries_withEntries_map _ _ (fun e => by split <;> rfl), Part.retriggered]
  congr 1
  have hfilter : (fun e : Entry => !(e.isDeferred && (e.srcPort == p && e.srcKey == key && e.gen == s.currentNumber))) =
      fun e => !(e.srcPort == p && e.srcKey == key && e.gen == s.currentNumber && e.isDeferred) :=
    funext fun e => by rw [Bool.and_comm]
  rw [hfilter]
  refine List.map_congr_left fun e _ => ite_eq_of_iff ?_ _ _
  rcases e.cases with ⟨-, hs, hu, -, hr⟩ | ⟨-, hs, hu, -, hr⟩ | ⟨-, hs, hu, -, hr⟩ | ⟨-, hs, hu, -, hr⟩ <;>
    simp [hs, hu, hr]

theorem Part.collide_eq_collided (s : Part) (d : Port) (slot key : Nat) :
    s.collide d slot key = s.collided d slot key := by
  rw [Part.collide, Part.releaseEntries_eq, Part.deleteDeferred_eq, Part.entries_withEntries,
    Part.setEntries_withEntries_map _ _ (fun e => by split <;> rfl), Part.collided]
  simp only [And.comm]

/-- Settles O19: with no items the retrigger step stands alone. -/
theorem keyDownWithNoZoneRetriggers : Obligations.KeyDownWithNoZoneRetriggers := by
  intro p key strike s hup hrole hnone own isCurrent
  rw [exec_keyDown key strike hup hrole, Part.zoneKeyDown, hnone, Part.noteDown, Part.takeItems,
    Part.retrigger_eq_retriggered]
  rfl

/-! ### Steals (R29) -/

/-- The first test of the order of R29 that an entry meets is its rank. -/
theorem Part.stealRank_eq (s : Part) (e : Entry) :
    (s.stealRank e == some 0) = e.isSustained ∧
    (s.stealRank e == some 1) = (e.isSounding && e.gen != s.currentNumber) ∧
    (s.stealRank e == some 2) = (e.isSounding && e.gen == s.currentNumber) ∧
    (s.stealRank e == some 3) = e.isDeferred := by
  by_cases hgen : e.gen = s.currentNumber <;> cases hstate : e.state <;>
    simp [Part.stealRank, Entry.isSustained, Entry.isSounding, Entry.isDeferred, hstate, hgen]

/-- Where no SOUNDING entry is of another generation, one of CURRENT is any SOUNDING one. -/
theorem Part.find_sounding_current {s : Part} {d : Port}
    (h : (s.notes.entries.find? fun e => e.dest == d && (e.isSounding && e.gen != s.currentNumber)) = none) :
    (s.notes.entries.find? fun e => e.dest == d && (e.isSounding && e.gen == s.currentNumber)) =
      s.notes.entries.find? fun e => e.dest == d && e.isSounding := by
  refine find?_eq_of_agree fun e he => ?_
  have hcurrent := List.find?_eq_none.mp h e he
  simp only [Bool.and_eq_true, beq_iff_eq, bne_iff_ne, not_and, Classical.not_not] at hcurrent
  rw [Bool.eq_iff_iff]
  simp only [Bool.and_eq_true, beq_iff_eq]
  exact ⟨fun ⟨hd, hs, _⟩ => ⟨hd, hs⟩, fun ⟨hd, hs⟩ => ⟨hd, hs, hcurrent hd hs⟩⟩

theorem Part.victim_eq_nextVictim (s : Part) (d : Port) : s.victim d = s.nextVictim d := by
  have h0 (e : Entry) := (s.stealRank_eq e).1
  have h1 (e : Entry) := (s.stealRank_eq e).2.1
  have h2 (e : Entry) := (s.stealRank_eq e).2.2.1
  have h3 (e : Entry) := (s.stealRank_eq e).2.2.2
  simp only [Part.nextVictim, List.findSome?, h0, h1, h2, h3, Part.victim]
  cases hsus : s.notes.entries.find? fun e => e.dest == d && e.isSustained
  case some => rfl
  cases hprior : s.notes.entries.find? fun e => e.dest == d && (e.isSounding && e.gen != s.currentNumber)
  case some => rfl
  rw [Part.find_sounding_current hprior]
  cases hsounding : s.notes.entries.find? fun e => e.dest == d && e.isSounding
  case some => rfl
  cases s.notes.entries.find? fun e => e.dest == d && e.isDeferred <;> rfl

theorem Entry.names_ne_of_nodup {xs ys : List Entry} {v : Entry} (h : ((xs ++ v :: ys).map Entry.name).Nodup) :
    ∀ x ∈ xs ++ ys, x.name ≠ v.name := by
  rw [List.map_append, List.map_cons] at h
  have hnone := not_mem_of_nodup_middle h
  rw [← List.map_append] at hnone
  exact fun x hx hname => hnone (hname ▸ List.mem_map_of_mem hx)

/-- In a table with names used once, a name picks one entry. -/
theorem Entry.eq_of_name {es : List Entry} (h : (es.map Entry.name).Nodup) {e v : Entry} (he : e ∈ es) (hv : v ∈ es)
    (hname : e.name = v.name) : e = v := by
  obtain ⟨xs, ys, rfl⟩ := List.append_of_mem hv
  by_cases hev : e = v
  · exact hev
  · refine absurd hname (Entry.names_ne_of_nodup h e ?_)
    simpa [hev] using he

/-- The two spellings of leaving out the entries of a name. -/
theorem Entry.name_bne (n : Nat) : (fun e : Entry => e.name != n) = fun e => decide (e.name ≠ n) :=
  funext fun e => by by_cases h : e.name = n <;> simp [h]

theorem Part.budgetStep_eq_withinBudget {s : Part} (h : (s.notes.entries.map Entry.name).Nodup) (d : Port) :
    s.budgetStep d = s.withinBudget d := by
  unfold Part.budgetStep Part.withinBudget
  split
  · congr 1
    rw [← s.victim_eq_nextVictim]
    rcases s.steal_cases d .stolen with ⟨hv, hs⟩ | ⟨v, hv, ⟨hdef, hs⟩ | ⟨hdef, hs⟩⟩
    · simp only [hv, hs]
    · simp only [hv, hs, hdef, if_true, Entry.name_bne]
    · obtain ⟨hmem, -, howed⟩ := Part.victim_mem hv
      have hrings : v.rings = true := by rcases v.cases with hc | hc | hc | hc <;> simp_all
      simp only [hv, hs, hdef]
      congr 1
      refine List.map_congr_left fun e he => ite_eq_of_iff ?_ _ _
      constructor
      · rintro ⟨hname, -⟩
        simpa using hname
      · intro hname
        rw [Entry.eq_of_name h he hmem hname]
        exact ⟨by simp, hrings⟩
  · rfl

/-! ### Creating entries (R24, R31, R32, R48) -/

/-- Everything an offer can do: the item joins a queue with room, a full queue raises QUEUE OVERFLOW, and a port that is
not UP takes nothing (R171). -/
theorem Part.offerItem_cases (s : Part) (p : Port) (it : QueueItem) :
    (s.HasRoom p ∧ s.offerItem p it = (s.updLink p fun l => { l with queue := l.queue ++ [it] }, true)) ∨
    (¬s.HasRoom p ∧ s.isUp p = true ∧ s.offerItem p it = (s.raiseOverflow, false)) ∨
    (¬s.HasRoom p ∧ s.isUp p = false ∧ s.offerItem p it = (s, false)) := by
  by_cases hroom : s.HasRoom p
  · exact .inl ⟨hroom, Part.offerItem_room it hroom⟩
  · have henqueue : s.enqueue p it = (s, false) := if_neg hroom
    cases hup : s.isUp p
    · exact .inr (.inr ⟨hroom, rfl, by simp [Part.offerItem, henqueue, hup]⟩)
    · exact .inr (.inl ⟨hroom, rfl, by simp [Part.offerItem, henqueue, hup]⟩)

/-- A queue with room takes the KEY DOWN of a new entry (R24, R48). -/
theorem Part.sounded_of_room {s : Part} {e : Entry} (h : s.HasRoom e.dest) :
    s.sounded e = (s.withNewEntry { e with
        state := if s.console.drain = none then .sounding else .owed .restart 0, pending := true }).updLink e.dest
      fun l => { l with queue := l.queue ++ [e.downItem] } := if_pos h

theorem Part.sounded_of_full {s : Part} {e : Entry} (h : ¬s.HasRoom e.dest) (hup : s.isUp e.dest = true) :
    s.sounded e = s.raiseOverflow := (if_neg h).trans (if_pos hup)

theorem Part.sounded_of_notUp {s : Part} {e : Entry} (h : ¬s.HasRoom e.dest) (hup : s.isUp e.dest = false) :
    s.sounded e = s := (if_neg h).trans (if_neg (by simp [hup]))

/-- An entry with a name of its own that has just joined is released alone (R48). -/
theorem Part.releaseEntries_withNewEntry {s : Part} {e : Entry} (hrings : e.rings = true)
    (hfresh : ∀ x ∈ s.notes.entries, x.name ≠ e.name) :
    ((s.withNewEntry e).releaseEntries .restart fun x => x.name == e.name) =
      s.withNewEntry { e with state := .owed .restart 0 } := by
  have hothers : (s.notes.entries.map fun x =>
      if (x.name == e.name) = true ∧ x.rings = true then { x with state := .owed .restart 0 } else x) =
      s.notes.entries := by
    exact map_eq_self fun x hx => if_neg fun hc => hfresh x hx (by simpa using hc.1)
  rw [Part.releaseEntries_eq]
  simp only [Part.withNewEntry, List.map_append, hothers, List.map_cons, List.map_nil, beq_self_eq_true, hrings,
    and_self, if_true]
  rfl

/-- A new entry with a name of its own that sounds, as statements write it. -/
theorem Part.createSounding_eq_sounded {s : Part} {e : Entry}
    (h : s.console.drain = none ∨ ∀ x ∈ s.notes.entries, x.name ≠ e.name) : s.createSounding e = s.sounded e := by
  unfold Part.createSounding
  rcases s.offerItem_cases e.dest e.downItem with ⟨hroom, ho⟩ | ⟨hroom, hup, ho⟩ | ⟨hroom, hup, ho⟩
  · rw [ho, Part.sounded_of_room hroom]
    dsimp only
    rw [Part.addEntry_eq _ _ rfl]
    rcases hdrain : s.console.drain with _ | drain
    · rw [if_neg (by simp [Part.draining, Part.withNewEntry, hdrain])]
      rfl
    · have hfresh := h.resolve_left (by simp [hdrain])
      rw [if_pos (by simp [Part.draining, Part.withNewEntry, hdrain])]
      exact Part.releaseEntries_withNewEntry (e := { e with state := .sounding, pending := true }) rfl hfresh
  · rw [ho, Part.sounded_of_full hroom hup]
  · rw [ho, Part.sounded_of_notUp hroom hup]

/-- A new DEFERRED entry, as statements write it. -/
theorem Part.createDeferred_eq_putOff (s : Part) (e : Entry) : s.createDeferred e = s.putOff e := by
  unfold Part.createDeferred Part.putOff Part.deferOverflow
  rw [Part.addEntry_eq _ _ rfl]
  cases s.notes.entries.find? fun x => x.dest == e.dest && x.isDeferred with
  | none => simp only [ite_self]
  | some v =>
    simp only [Part.keepEntries_eq, Entry.name_bne]
    split
    · next hfull => exact (if_pos hfull).symm
    · next hroom => exact (if_neg hroom).symm

theorem Part.putOff_of_ne {s : Part} {e : Entry} (h : s.deferredCount e.dest ≠ 16) :
    s.putOff e = s.withNewEntry { e with state := .deferred, pending := false } := by
  unfold Part.putOff
  split
  · exact if_neg h
  · rfl

theorem Part.putOff_of_full {s : Part} {e v : Entry} (h : s.deferredCount e.dest = 16)
    (hv : (s.notes.entries.find? fun x => x.dest == e.dest && x.isDeferred) = some v) :
    s.putOff e =
      let w := s.withEntries (s.notes.entries.filter fun x => x.name ≠ v.name)
      ({ w with notes := { w.notes with
          deferOverflow := upd w.notes.deferOverflow e.dest (bump 65535) } }).withNewEntry
        { e with state := .deferred, pending := false } := by
  unfold Part.putOff
  rw [hv]
  exact if_pos h

/-! ### Items (R28 to R31) -/

theorem Part.createItem_eq {s : Part} {p : Port} {key : Nat} {it : ResultItem}
    (h : s.console.drain = none ∨ ∀ x ∈ s.notes.entries, x.name ≠ s.notes.nextName) :
    s.createItem p key it =
      if s.isSettling it.dest = true then
        if s.console.drain = none then s.putOff (s.entryOf p key it) else s
      else s.sounded (s.entryOf p key it) := by
  unfold Part.createItem
  dsimp only
  rw [Part.createSounding_eq_sounded (e := s.entryOf p key it) h, Part.createDeferred_eq_putOff]
  cases hdrain : s.console.drain <;> simp [Part.draining, hdrain]

/-! ### Names are used once (log 14) -/

theorem Part.NamesHold.congr {s t : Part} (h : s.NamesHold) (hnotes : t.notes = s.notes) : t.NamesHold := by
  rw [Part.NamesHold, hnotes]
  exact h

/-- A table whose names come from the one before, in its order, uses them once. -/
theorem Part.NamesHold.withEntries {s : Part} {es : List Entry} (h : s.NamesHold)
    (hsub : (es.map Entry.name).Sublist (s.notes.entries.map Entry.name)) : (s.withEntries es).NamesHold := by
  refine ⟨h.1.sublist hsub, fun e he => ?_⟩
  obtain ⟨x, hx, hname⟩ := List.mem_map.mp (hsub.subset (List.mem_map_of_mem he))
  rw [← hname]
  exact h.2 x hx

theorem Part.NamesHold.setEntries {s : Part} {es : List Entry} (h : s.NamesHold)
    (hsub : (es.map Entry.name).Sublist (s.notes.entries.map Entry.name)) : (s.setEntries es).NamesHold :=
  (h.withEntries hsub).congr rfl

theorem Part.NamesHold.withNewEntry {s : Part} {e : Entry} (h : s.NamesHold) (hname : e.name = s.notes.nextName) :
    (s.withNewEntry e).NamesHold := by
  constructor
  · simp only [Part.withNewEntry, List.map_append, List.map_cons, List.map_nil]
    refine List.nodup_append.mpr ⟨h.1, by simp, fun a ha b hb => ?_⟩
    obtain ⟨x, hx, rfl⟩ := List.mem_map.mp ha
    have hlt := h.2 x hx
    have hb : b = s.notes.nextName := by simpa [hname] using hb
    omega
  · intro x hx
    simp only [Part.withNewEntry, List.mem_append, List.mem_singleton] at hx ⊢
    rcases hx with hx | rfl
    · exact Nat.lt_succ_of_lt (h.2 x hx)
    · exact hname ▸ Nat.lt_succ_self _

/-- A name not yet given is no entry's name. -/
theorem Part.NamesHold.fresh {s : Part} (h : s.NamesHold) : ∀ x ∈ s.notes.entries, x.name ≠ s.notes.nextName :=
  fun x hx => Nat.ne_of_lt (h.2 x hx)

/-- A change of entries that keeps names keeps the list of names. -/
theorem Entry.map_name_map {f : Entry → Entry} (hf : ∀ e, (f e).name = e.name) (es : List Entry) :
    (es.map f).map Entry.name = es.map Entry.name := by
  rw [List.map_map]
  exact List.map_congr_left fun e _ => hf e

theorem Entry.names_sublist_map {f : Entry → Entry} (hf : ∀ e, (f e).name = e.name) (es : List Entry) :
    ((es.map f).map Entry.name).Sublist (es.map Entry.name) := by
  simp only [Entry.map_name_map hf, List.Sublist.refl]

theorem Part.NamesHold.collided {s : Part} (h : s.NamesHold) (d : Port) (slot key : Nat) :
    (s.collided d slot key).NamesHold := by
  refine h.withEntries ?_
  rw [Entry.map_name_map fun e => by split <;> rfl]
  exact List.filter_sublist.map _

theorem Part.NamesHold.retriggered {s : Part} (h : s.NamesHold) (p : Port) (key : Nat) :
    (s.retriggered p key).NamesHold := by
  refine h.withEntries ?_
  rw [Entry.map_name_map fun e => by split <;> rfl]
  exact List.filter_sublist.map _

theorem Part.NamesHold.raise {s : Part} (h : s.NamesHold) (f : Flag) : (s.raise f).NamesHold :=
  h.congr (s.told_raise allowsAll f).notes

theorem Part.NamesHold.raiseOverflow {s : Part} (h : s.NamesHold) : s.raiseOverflow.NamesHold :=
  h.congr (s.told_raiseOverflow allowsAll).notes

theorem Part.NamesHold.withinBudget {s : Part} (h : s.NamesHold) (d : Port) : (s.withinBudget d).NamesHold := by
  unfold Part.withinBudget
  split
  · refine Part.NamesHold.raise ?_ .steal
    split
    · exact h
    · split
      · exact h.withEntries (List.filter_sublist.map _)
      · refine h.setEntries (Entry.names_sublist_map (fun e => ?_) _)
        split <;> rfl
  · exact h

theorem Part.NamesHold.sounded {s : Part} {e : Entry} (h : s.NamesHold) (hname : e.name = s.notes.nextName) :
    (s.sounded e).NamesHold := by
  unfold Part.sounded
  split
  · exact (Part.NamesHold.withNewEntry (e := { e with state := _, pending := true }) h hname).congr rfl
  · split
    · exact h.raiseOverflow
    · exact h

theorem Part.NamesHold.putOff {s : Part} {e : Entry} (h : s.NamesHold) (hname : e.name = s.notes.nextName) :
    (s.putOff e).NamesHold := by
  unfold Part.putOff
  split
  · next v _ =>
    split
    · have hdeleted : (s.withEntries (s.notes.entries.filter fun x => x.name ≠ v.name)).NamesHold :=
        h.withEntries (List.filter_sublist.map _)
      exact Part.NamesHold.withNewEntry ⟨hdeleted.1, hdeleted.2⟩ hname
    · exact h.withNewEntry hname
  · exact h.withNewEntry hname

theorem Part.NamesHold.itemTaken {s : Part} (h : s.NamesHold) (p : Port) (key : Nat) (it : ResultItem) :
    (s.itemTaken p key it).NamesHold := by
  have hw := (h.collided it.dest it.slot it.key).withinBudget it.dest
  unfold Part.itemTaken
  dsimp only
  split
  · exact hw.raise _
  · split
    · split
      · exact hw.putOff rfl
      · exact hw
    · exact hw.sounded rfl

/-! ### Items one by one (R27 to R31) -/

/-- The steps of one item, as statements write them. -/
theorem Part.takeItem_eq_itemTaken {s : Part} (h : s.NamesHold) (p : Port) (key : Nat) (it : ResultItem) :
    s.takeItem p key it = s.itemTaken p key it := by
  have hcollided := h.collided it.dest it.slot it.key
  have hw := hcollided.withinBudget it.dest
  unfold Part.takeItem
  rw [Part.collide_eq_collided, Part.budgetStep_eq_withinBudget hcollided.1]
  dsimp only
  rw [Part.createItem_eq (.inr hw.fresh)]
  rfl

/-- Two items agree where what identifies them does (R27). -/
theorem ResultItem.agrees_eq (x y : ResultItem) :
    (x.dest == y.dest && x.slot == y.slot && x.key == y.key) =
      ((y.dest, y.slot, y.key) == (x.dest, x.slot, x.key)) := by
  rw [Bool.eq_iff_iff]
  simp only [Bool.and_eq_true, beq_iff_eq, Prod.mk.injEq, and_assoc]
  exact ⟨fun ⟨hd, hs, hk⟩ => ⟨hd.symm, hs.symm, hk.symm⟩, fun ⟨hd, hs, hk⟩ => ⟨hd.symm, hs.symm, hk.symm⟩⟩

/-- The items of a list, where `seen` holds what identifies the earlier ones. -/
theorem Part.takeItems_eq_itemsTaken {s : Part} (h : s.NamesHold) (p : Port) (key : Nat) (its : List ResultItem)
    {seen : List (Port × Nat × Nat)} {earlier : List ResultItem}
    (hseen : ∀ it : ResultItem, seen.contains (it.dest, it.slot, it.key) =
      earlier.any fun x => x.dest == it.dest && x.slot == it.slot && x.key == it.key) :
    s.takeItems p key its seen = s.itemsTaken p key earlier its := by
  induction its generalizing s seen earlier with
  | nil => rfl
  | cons it rest ih =>
    unfold Part.takeItems Part.itemsTaken
    rw [← hseen it]
    by_cases hskip : seen.contains (it.dest, it.slot, it.key) = true
    · simp only [hskip, if_true]
      refine ih h fun x => ?_
      rw [List.any_append, ← hseen x, List.any_cons, List.any_nil, Bool.or_false, ResultItem.agrees_eq]
      cases hsame : (x.dest, x.slot, x.key) == (it.dest, it.slot, it.key)
      · rw [Bool.or_false]
      · rw [beq_iff_eq.mp hsame, hskip, Bool.or_true]
    · simp only [if_neg hskip, Part.takeItem_eq_itemTaken h]
      refine ih (h.itemTaken p key it) fun x => ?_
      rw [List.any_append, ← hseen x, List.any_cons, List.any_nil, Bool.or_false, ResultItem.agrees_eq,
        List.contains_cons, Bool.or_comm]

/-! ### The zone result list (R8, R10 to R12) -/

theorem Part.zoneItem_eq (s : Part) (gen : Nat) (p : Port) (key strike : Nat) (z : ZoneRecord) (i : Nat) :
    s.zoneItem gen p key strike z i =
      if z.covers p key strike = true then
        (z.sentKey key).bind fun sent => (s.leadsTo z.port).map fun d =>
          ({ zone := i, gen := gen, dest := d, slot := z.slot, key := sent
             strike := s.sentStrike z strike } : ResultItem)
      else none := by
  unfold Part.zoneItem
  rw [Part.resolve_eq_leadsTo]
  cases z.sentKey key <;> cases s.leadsTo z.port <;> rfl

theorem Part.zoneResult_eq (s : Part) (p : Port) (key strike : Nat) :
    s.zoneResult p key strike = s.scene.current.elim [] fun g =>
      g.zones.zipIdx.filterMap fun x => s.zoneItem g.number p key strike x.1 x.2 := by
  unfold Part.zoneResult
  cases s.scene.current <;> rfl

theorem Part.zoneItem_of_not_covers {s : Part} {p : Port} {key strike : Nat} {z : ZoneRecord}
    (h : z.covers p key strike = false) (gen i : Nat) : s.zoneItem gen p key strike z i = none := by
  simp [Part.zoneItem, h]

/-- Zones that do not cover a key-down have no items. -/
theorem Part.zoneItems_of_not_covers {s : Part} {p : Port} {key strike : Nat} {zones : List ZoneRecord}
    (h : ∀ y ∈ zones, y.covers p key strike = false) (gen first : Nat) :
    (zones.zipIdx first).filterMap (fun x => s.zoneItem gen p key strike x.1 x.2) = [] :=
  List.filterMap_eq_nil_iff.mpr fun x hx => Part.zoneItem_of_not_covers (h x.1 (List.fst_mem_of_mem_zipIdx hx)) _ _

/-- The item of a key-down that one zone takes. -/
def Part.oneItem (s : Part) (strike zone : Nat) (z : ZoneRecord) (sent : Nat) (d : Port) : ResultItem :=
  { zone := zone, gen := s.currentNumber, dest := d, slot := z.slot, key := sent, strike := s.sentStrike z strike }

theorem Part.OneZone.zoneResult {s : Part} {p : Port} {key strike : Nat} {before : List ZoneRecord} {z : ZoneRecord}
    {after : List ZoneRecord} {sent : Nat} {d : Port} (h : s.OneZone p key strike before z after sent d) :
    s.zoneResult p key strike = [s.oneItem strike before.length z sent d] := by
  obtain ⟨⟨g, hg, hzones⟩, hothers, hcovers, hsent, n, hn, hrole, hdest⟩ := h
  have hleads : s.leadsTo z.port = some d := by
    rw [Part.leadsTo, Option.mem_def.mp hn]
    rcases hdest with ⟨hactive, rfl⟩ | ⟨hinactive, hsub⟩
    · simp [hrole, hactive]
    · simp [hrole, hinactive, hsub]
  have hitem (gen : Nat) : s.zoneItem gen p key strike z before.length =
      some { s.oneItem strike before.length z sent d with gen := gen } := by
    rw [Part.zoneItem_eq, if_pos hcovers, hsent, hleads]
    rfl
  have hnumber : s.currentNumber = g.number := by simp [Part.currentNumber, Option.mem_def.mp hg]
  rw [Part.zoneResult_eq, Option.mem_def.mp hg, Option.elim_some, hzones, List.zipIdx_append, List.zipIdx_cons,
    List.filterMap_append,
    Part.zoneItems_of_not_covers (fun y hy => hothers y (List.mem_append_left _ hy)), List.filterMap_cons_some
      (by rw [Nat.zero_add]; exact hitem g.number),
    Part.zoneItems_of_not_covers (fun y hy => hothers y (List.mem_append_right _ hy)), ← hnumber]
  rfl

/-! ### A key-down with nothing in its way (R26, R28) -/

theorem Part.Untouched.retriggered {s : Part} {p : Port} {key : Nat} {d : Port} {slot sent : Nat}
    (h : s.Untouched p key d slot sent) : s.retriggered p key = s.withEntries s.notes.entries := by
  have hown (e : Entry) (he : e ∈ s.notes.entries) : (e.srcPort == p && e.srcKey == key) = false := by
    rw [← Bool.not_eq_true, Bool.and_eq_true, beq_iff_eq, beq_iff_eq]
    exact (h e he).1
  unfold Part.retriggered
  dsimp only
  rw [List.filter_eq_self.mpr fun e he => by simp [hown e he]]
  rw [map_eq_self fun e he => if_neg fun hc => by simp [hown e he] at hc]

theorem Part.Untouched.collided {s : Part} {p : Port} {key : Nat} {d : Port} {slot sent : Nat}
    (h : s.Untouched p key d slot sent) : s.collided d slot sent = s.withEntries s.notes.entries := by
  have howed (e : Entry) (he : e ∈ s.notes.entries) (hplays : e.plays d slot sent = true) :
      e.isDeferred = false ∧ e.rings = false := by
    have := (h e he).2 hplays
    rcases e.cases with hc | hc | hc | hc <;> simp_all
  unfold Part.collided
  rw [List.filter_eq_self.mpr fun e he => by
    cases hplays : e.plays d slot sent
    · simp
    · simp [(howed e he hplays).1]]
  rw [map_eq_self fun e he => if_neg fun hc => by simp [(howed e he hc.2).2] at hc]

/-- A key-down of one item with nothing in its way: the budget, table-full and create steps. -/
theorem Part.Untouched.noteDown {s : Part} {p : Port} {key : Nat} {it : ResultItem}
    (h : s.Untouched p key it.dest it.slot it.key) :
    s.noteDown p key [it] =
      let w := (s.withEntries s.notes.entries).budgetStep it.dest
      if 256 ≤ w.notes.entries.length then w.raise .noteTableFull else w.createItem p key it := by
  have hcollided : (s.withEntries s.notes.entries).collide it.dest it.slot it.key =
      s.withEntries s.notes.entries := by
    rw [Part.collide_eq_collided, Part.Untouched.collided (s := s.withEntries s.notes.entries) h]
    exact s.withEntries_withEntries_self _
  rw [Part.noteDown, Part.retrigger_eq_retriggered, h.retriggered]
  simp only [Part.takeItems, List.contains_nil, Bool.false_eq_true, if_false, Part.takeItem, hcollided]
  rfl

/-- A key-down that one zone takes, with nothing in its way (R8 to R12). -/
theorem exec_keyDown_oneZone {s : State} {p : Port} {key : BitVec 7} {strike : BitVec 10} {before : List ZoneRecord}
    {z : ZoneRecord} {after : List ZoneRecord} {sent : Nat} {d : Port} (hup : s.part.isUp p = true)
    (hrole : s.part.role p = .controller) (hzone : s.part.OneZone p key.toNat (max 1 strike.toNat) before z after sent d)
    (hfree : s.part.Untouched p key.toNat d z.slot sent) :
    exec (.keyDown p key strike) s = .next (s.becomes <|
      let w := (s.part.withEntries s.part.notes.entries).budgetStep d
      if 256 ≤ w.notes.entries.length then w.raise .noteTableFull
      else w.createItem p key.toNat (s.part.oneItem (max 1 strike.toNat) before.length z sent d)) := by
  rw [exec_keyDown key strike hup hrole, Part.zoneKeyDown, hzone.zoneResult, Part.Untouched.noteDown hfree]
  rfl

theorem Part.budgetStep_of_ne {s : Part} {d : Port} (h : s.kept d ≠ (s.moduleFields d).voiceBudget) :
    s.budgetStep d = s := if_neg h

/-- The oldest DEFERRED entry of a port is the first of them in the table (R32). -/
theorem Entry.find_first {es xs ys : List Entry} {v : Entry} {f : Entry → Bool} (hes : es = xs ++ v :: ys)
    (hv : f v = true) (hxs : ∀ x ∈ xs, f x = false) : es.find? f = some v := by
  rw [hes, List.find?_append, List.find?_eq_none.mpr (fun x hx => by simp [hxs x hx]), Option.none_or,
    List.find?_cons_of_pos hv]

/-- Leaving out a name that one entry has leaves out that entry. -/
theorem Entry.filter_name_ne {es xs ys : List Entry} {v : Entry} (hes : es = xs ++ v :: ys)
    (h : ∀ x ∈ xs ++ ys, x.name ≠ v.name) : es.filter (fun e => decide (e.name ≠ v.name)) = xs ++ ys := by
  have hkeep (zs : List Entry) (hzs : ∀ x ∈ zs, x.name ≠ v.name) :
      zs.filter (fun e => decide (e.name ≠ v.name)) = zs :=
    List.filter_eq_self.mpr fun x hx => by simpa using hzs x hx
  rw [hes, List.filter_append, List.filter_cons_of_neg (by simp), hkeep xs fun x hx => h x (List.mem_append_left _ hx),
    hkeep ys fun x hx => h x (List.mem_append_right _ hx)]

/-- Settles O20: nothing stands in the way of the one item, and it is created by R24 or R32. -/
theorem keyDownSoundsOrDefers : Obligations.KeyDownSoundsOrDefers := by
  intro p key strike before z after sent d s hup hrole hzone hfree hdrain hbudget htable made u
  have hcreated : exec (.keyDown p key strike) s = .next (s.becomes <|
      if s.part.isSettling d = true then u.putOff (made .deferred false) else u.sounded (made .sounding true)) := by
    have hstep : u.budgetStep d = u := Part.budgetStep_of_ne (Nat.ne_of_lt hbudget)
    have hlen : ¬256 ≤ u.notes.entries.length := Nat.not_le_of_lt htable
    have hu : u.console.drain = none := hdrain
    rw [exec_keyDown_oneZone hup hrole hzone hfree]
    simp only [u] at hstep hlen hu
    simp only [hstep, if_neg hlen, Part.createItem_eq (.inl hu), if_pos hu]
    rfl
  refine ⟨fun hsettle hroom => ?_, fun hsettle hupd hroom => ?_, fun hsettle => ⟨fun hcount => ?_, ?_⟩⟩
  · rw [hcreated, if_neg (by simp [hsettle]), Part.sounded_of_room hroom]
    have hu : u.console.drain = none := hdrain
    rw [hu]
    rfl
  · rw [Completes, hcreated, if_neg (by simp [hsettle]), Part.sounded_of_full hroom hupd]
    exact ⟨_, rfl, u.offered_raiseOverflow⟩
  · rw [hcreated, if_pos hsettle, Part.putOff_of_ne (Nat.ne_of_lt hcount)]
    rfl
  · intro xs ys v hes hdest hdef hfirst hnames hcount
    have hfind : (u.notes.entries.find? fun x => x.dest == d && x.isDeferred) = some v :=
      Entry.find_first hes (by simp [hdest, hdef]) fun x hx => by simpa using hfirst x hx
    have hfilter : (u.notes.entries.filter fun x => decide (x.name ≠ v.name)) = xs ++ ys :=
      Entry.filter_name_ne hes hnames
    rw [hcreated, if_pos hsettle, Part.putOff_of_full hcount hfind, hfilter]
    rfl

end Sys2Proof.Machine
end

section
/-!
PROOFS. A key-down at the voice budget: the victim of R29, and the entry that then sounds.
-/

namespace Sys2Proof.Machine

/-! ### The victim of R29 -/

theorem Part.stealRank_le {s : Part} {e : Entry} {r : Nat} (h : s.stealRank e = some r) : r ≤ 3 := by
  unfold Part.stealRank at h
  cases e.state <;> grind

/-- The entry that comes first in the order of R29 is the next victim. -/
theorem Part.IsVictim.nextVictim {s : Part} {d : Port} {xs : List Entry} {v : Entry} {ys : List Entry}
    (h : s.IsVictim d xs v ys) : s.nextVictim d = some v := by
  obtain ⟨hes, hdest, r, hr, hbefore, hafter⟩ := h
  have hr : s.stealRank v = some r := hr
  have hlower (k : Nat) (hk : k < r) :
      (s.notes.entries.find? fun e => e.dest == d && s.stealRank e == some k) = none := by
    refine List.find?_eq_none.mpr fun e he hc => ?_
    simp only [Bool.and_eq_true, beq_iff_eq] at hc
    obtain ⟨hd, hrank⟩ := hc
    rw [hes, List.mem_append, List.mem_cons] at he
    rcases he with he | rfl | he
    · exact absurd (hbefore e he hd k hrank) (by omega)
    · rw [hr, Option.some.injEq] at hrank
      omega
    · exact absurd (hafter e he hd k hrank) (by omega)
  have hfirst : (s.notes.entries.find? fun e => e.dest == d && s.stealRank e == some r) = some v := by
    refine Entry.find_first hes (by simp [hdest, hr]) fun e he => ?_
    rw [← Bool.not_eq_true, Bool.and_eq_true, beq_iff_eq, beq_iff_eq]
    rintro ⟨hd, hrank⟩
    exact absurd (hbefore e he hd r hrank) (by omega)
  obtain ⟨ranks, rest, hranks, hranksLower⟩ : ∃ ranks rest, [0, 1, 2, 3] = ranks ++ r :: rest ∧ ∀ k ∈ ranks, k < r :=
    match r, Part.stealRank_le hr with
    | 0, _ => ⟨[], [1, 2, 3], rfl, by simp⟩
    | 1, _ => ⟨[0], [2, 3], rfl, by simp⟩
    | 2, _ => ⟨[0, 1], [3], rfl, by simp⟩
    | 3, _ => ⟨[0, 1, 2], [], rfl, by simp⟩
  exact List.findSome?_eq_some_iff.mpr ⟨ranks, r, rest, hranks, hfirst, fun k hk => hlower k (hranksLower k hk)⟩

/-- The part after the steal of `v`, which stands in the table between `xs` and `ys` (R29). -/
def Part.stolen (s : Part) (xs : List Entry) (v : Entry) (ys : List Entry) : Part :=
  if v.isDeferred = true then s.withEntries (xs ++ ys)
  else s.setEntries (xs ++ { v with state := .owed .stolen 0 } :: ys)

/-- Changing the entry of a name changes the one entry that has it. -/
theorem Entry.map_name_eq {es xs ys : List Entry} {v : Entry} (f : Entry → Entry) (hes : es = xs ++ v :: ys)
    (h : ∀ x ∈ xs ++ ys, x.name ≠ v.name) :
    (es.map fun e => if e.name = v.name then f e else e) = xs ++ f v :: ys := by
  have hkeep (zs : List Entry) (hzs : ∀ x ∈ zs, x.name ≠ v.name) :
      (zs.map fun e => if e.name = v.name then f e else e) = zs := by
    exact map_eq_self fun x hx => if_neg (hzs x hx)
  rw [hes, List.map_append, List.map_cons, if_pos rfl, hkeep xs fun x hx => h x (List.mem_append_left _ hx),
    hkeep ys fun x hx => h x (List.mem_append_right _ hx)]

/-- At the voice budget the first in the order of R29 is stolen, and STEAL is raised. -/
theorem Part.IsVictim.budgetStep {s : Part} {d : Port} {xs : List Entry} {v : Entry} {ys : List Entry}
    (h : s.IsVictim d xs v ys) (hnames : s.NamesHold) (hbudget : s.kept d = (s.moduleFields d).voiceBudget) :
    s.budgetStep d = (s.stolen xs v ys).raise .steal := by
  have hes := h.1
  have hne : ∀ x ∈ xs ++ ys, x.name ≠ v.name := Entry.names_ne_of_nodup (hes ▸ hnames.1)
  rw [Part.budgetStep_eq_withinBudget hnames.1]
  unfold Part.withinBudget Part.stolen
  rw [if_pos hbudget, h.nextVictim]
  dsimp only
  rw [Entry.filter_name_ne hes hne, Entry.map_name_eq (fun e => { e with state := .owed .stolen 0 }) hes hne]

/-- A steal changes the table and PRIOR alone. -/
theorem Part.stolen_frame (s : Part) (xs : List Entry) (v : Entry) (ys : List Entry) :
    (s.stolen xs v ys).links = s.links ∧ (s.stolen xs v ys).tables = s.tables ∧
    (s.stolen xs v ys).console = s.console ∧ (s.stolen xs v ys).scene.settle = s.scene.settle ∧
    (s.stolen xs v ys).notes.nextName = s.notes.nextName ∧
    (s.stolen xs v ys).notes.entries.length ≤ (xs ++ v :: ys).length := by
  unfold Part.stolen
  split <;> simp [Part.withEntries, Part.setEntries]

/-- What a creation on a port that is not CONSOLE reads is after a steal, STEAL raised, as it was. -/
theorem Part.raise_stolen_frame {s : Part} {d : Port} (hrole : s.role d ≠ .console) (xs : List Entry) (v : Entry)
    (ys : List Entry) :
    ((s.stolen xs v ys).raise .steal).link d = (s.stolen xs v ys).link d ∧
    ((s.stolen xs v ys).raise .steal).link d = s.link d ∧
    ((s.stolen xs v ys).raise .steal).console.drain = s.console.drain ∧
    ((s.stolen xs v ys).raise .steal).isSettling d = s.isSettling d ∧
    ((s.stolen xs v ys).raise .steal).notes.nextName = s.notes.nextName ∧
    ((s.stolen xs v ys).raise .steal).notes.entries.length ≤ (xs ++ v :: ys).length := by
  obtain ⟨hlinks, htables, hconsole, hsettle, hname, hlen⟩ := s.stolen_frame xs v ys
  have hraised := (s.stolen xs v ys).told_raise allowsAll .steal
  have hlink : ((s.stolen xs v ys).raise .steal).link d = (s.stolen xs v ys).link d :=
    Part.link_raise (by rwa [Part.role_congr htables]) .steal
  refine ⟨hlink, hlink.trans (Part.link_congr hlinks d), ?_, ?_, ?_, ?_⟩
  · rw [hraised.console, hconsole]
  · rw [Part.isSettling, hraised.scene, hsettle]
    rfl
  · rw [hraised.notes, hname]
  · rwa [hraised.notes]

/-! ### A key-down at the voice budget (R29) -/

/-- What reported a part reports it still once an entry has joined the table and its item a queue that the reports left
alone. -/
theorem Part.Reported.joined {u t : Part} {d : Port} (h : u.Reported t) (hlink : t.link d = u.link d) (e : Entry)
    (it : QueueItem) :
    ((u.withNewEntry e).updLink d fun l => { l with queue := l.queue ++ [it] }).Reported
      ((t.withNewEntry e).updLink d fun l => { l with queue := l.queue ++ [it] }) := by
  obtain ⟨hrest, hlinks, hflags⟩ := h
  refine ⟨?_, fun p => ?_, hflags⟩
  · generalize hL : t.links = links at hrest
    generalize hF : t.console.flags = flags at hrest
    rw [hrest]
    rfl
  · have hu : (u.withNewEntry e).link = u.link := rfl
    have ht : (t.withNewEntry e).link = t.link := rfl
    by_cases hp : d = p
    · subst hp
      simp [hu, ht, hlink]
    · simpa [hu, ht, hp] using hlinks p

/-- An item creates a SOUNDING entry on a module that is not settling and has room in its queue, without a drain
(R24, R31). -/
theorem Part.createItem_of_room {s : Part} {p : Port} {key : Nat} {it : ResultItem} (hdrain : s.console.drain = none)
    (hsettle : s.isSettling it.dest = false) (hroom : s.HasRoom it.dest) :
    s.createItem p key it =
      (s.withNewEntry { s.entryOf p key it with state := .sounding, pending := true }).updLink it.dest
        fun l => { l with queue := l.queue ++ [(s.entryOf p key it).downItem] } := by
  rw [Part.createItem_eq (.inl hdrain), if_neg (by simp [hsettle]),
    Part.sounded_of_room (e := s.entryOf p key it) hroom, if_pos hdrain]
  rfl

/-- Settles O21: at the voice budget by the order of R29, then item by item, then the notice of a flag. -/
theorem keyDownStealsAtTheBudget : Obligations.KeyDownStealsAtTheBudget := by
  refine ⟨?_, ?_, fun f u => ⟨u.offered_raise f, u.offered_raiseOverflow⟩⟩
  · intro p key strike before z after sent d xs v ys s hup hrole hzone hfree hdrain hsettle hbudget htable hroom hmodule
      hnames hvictim e t0 t1
    have ht1 : t0.stolen xs v ys = t1 := rfl
    have hstep : t0.budgetStep d = t1.raise .steal :=
      Part.IsVictim.budgetStep (s := t0) hvictim hnames hbudget
    obtain ⟨hlink1, hlink0, hdrain0, hsettle0, hname0, hlen⟩ :=
      Part.raise_stolen_frame (s := t0) (d := d) (fun hc => nomatch hmodule.symm.trans hc) xs v ys
    rw [ht1] at hlink1 hlink0 hdrain0 hsettle0 hname0 hlen
    have hshort : ¬256 ≤ (t1.raise .steal).notes.entries.length := by
      have hlt : (xs ++ v :: ys).length < 256 := hvictim.1 ▸ htable
      exact Nat.not_le_of_lt (Nat.lt_of_le_of_lt hlen hlt)
    have hroom1 : (t1.raise .steal).HasRoom d := by
      rw [Part.HasRoom, hlink0]
      exact hroom
    have hentry : (t1.raise .steal).entryOf p key.toNat (s.part.oneItem (max 1 strike.toNat) before.length z sent d) =
        { e with state := .deferred, pending := false } := by
      rw [Part.entryOf, hname0]
      rfl
    have hcreated := Part.createItem_of_room (p := p) (key := key.toNat)
      (it := s.part.oneItem (max 1 strike.toNat) before.length z sent d) (hdrain0.trans hdrain)
      (hsettle0.trans hsettle) hroom1
    refine ⟨_, (exec_keyDown_oneZone hup hrole hzone hfree).trans ?_,
      ((t1.told_raise allowsAll .steal).reported.joined hlink1 e e.downItem), t1.has_raise .steal⟩
    simp only [t0] at hstep
    simp only [hstep, if_neg hshort]
    rw [hcreated, hentry]
    rfl
  · intro p key strike s hup hrole hnames items
    have hitems : s.part.zoneResult p key.toNat (max 1 strike.toNat) = items := by
      simp only [Part.zoneResult_eq, Part.zoneItem_eq]
      rfl
    rw [exec_keyDown key strike hup hrole, Part.zoneKeyDown, hitems, Part.noteDown, Part.retrigger_eq_retriggered,
      Part.takeItems_eq_itemsTaken (hnames.retriggered p key.toNat) p key.toNat items (seen := [])
        (earlier := []) fun _ => rfl]

end Sys2Proof.Machine
end

section
/-!
PROOFS. Sustain (R14, R34, R35): SUSTAIN events, and the SUSTAIN triggers of PEDAL (R127 to R133).
-/

namespace Sys2Proof.Machine

/-! ### The sustain state of a port (R34, R35) -/

theorem Part.sustainDown_eq (s : Part) (p : Port) :
    s.sustainDown p = (s.notes.sustainFrame[p] ||
      s.notes.holds.toList.any fun h => h.any fun x => x.port == p && !x.disregarded) := by
  unfold Part.sustainDown
  congr 2
  funext h
  cases h <;> rfl

/-- A port's sustain state is up where its frame part is up and every hold that names it is disregarded (R34). -/
theorem Part.sustainDown_eq_false_iff (s : Part) (p : Port) :
    s.sustainDown p = false ↔ s.notes.sustainFrame[p] = false ∧
      ∀ j : Trigger, ∀ x ∈ s.notes.holds[j], x.port = p → x.disregarded = true := by
  rw [Part.sustainDown_eq, Bool.or_eq_false_iff, List.any_eq_false]
  refine and_congr_right fun _ => ⟨fun h j x hx hport => ?_, fun h y hy => ?_⟩
  · have := h s.notes.holds[j] (Vector.mem_toList_iff.mpr (Vector.getElem_mem j.isLt))
    simpa [Option.mem_def.mp hx, hport] using this
  · obtain ⟨j, hj, rfl⟩ := Vector.getElem_of_mem (Vector.mem_toList_iff.mp hy)
    rw [Option.any_eq_true]
    rintro ⟨x, hx, hc⟩
    simp only [Bool.and_eq_true, beq_iff_eq, Bool.not_eq_true'] at hc
    simp [h ⟨j, hj⟩ x hx hc.1] at hc

/-- The entries of a table after a sustain lift on a port (R35). -/
def Part.lifted (s : Part) (p : Port) : List Entry :=
  s.notes.entries.map fun e =>
    if e.isSustained = true ∧ e.srcPort = p then { e with state := .owed .sustainLift 0 } else e

theorem Part.sustainLift_eq (s : Part) (p : Port) : s.sustainLift p = s.setEntries (s.lifted p) := by
  rw [Part.sustainLift, Part.releaseEntries_eq, Part.lifted]
  congr 1
  refine List.map_congr_left fun e _ => ite_eq_of_iff ?_ _ _
  rcases e.cases with ⟨-, -, hu, -, hr⟩ | ⟨-, -, hu, -, hr⟩ | ⟨-, -, hu, -, hr⟩ | ⟨-, -, hu, -, hr⟩ <;> simp [hu, hr]

/-- Everything a change of sustain parts does (R34, R35). -/
theorem Part.changeSustain_eq (s : Part) (p : Port) (f : NotesState → NotesState) :
    s.changeSustain p f =
      if s.sustainDown p = true ∧ ({ s with notes := f s.notes } : Part).sustainDown p = false then
        ({ s with notes := f s.notes } : Part).setEntries (({ s with notes := f s.notes } : Part).lifted p)
      else { s with notes := f s.notes } := by
  rw [← Part.sustainLift_eq]
  rcases s.changeSustain_cases p f with ⟨hdown, hup, he⟩ | ⟨hno, he⟩
  · rw [he, if_pos ⟨hdown, hup⟩]
  · rw [he, if_neg hno]

/-- A SUSTAIN event lifts where it lets up the frame part alone (R34). -/
theorem Part.sustainEvent_lifts_iff (s : Part) (p : Port) (v : Nat) :
    (s.sustainDown p = true ∧ ({ s with notes := { s.notes with
        sustainFrame := upd s.notes.sustainFrame p fun _ => decide (512 ≤ v) } } : Part).sustainDown p = false) ↔
      s.notes.sustainFrame[p] = true ∧ v < 512 ∧
        (s.notes.holds.toList.any fun h => h.any fun x => x.port == p && !x.disregarded) = false := by
  simp only [Part.sustainDown_eq, getElem_upd, if_true]
  generalize s.notes.holds.toList.any (fun h => h.any fun x => x.port == p && !x.disregarded) = pedalPart
  cases s.notes.sustainFrame[p] <;> cases pedalPart <;> simp

/-! ### Samples in which one trigger moves (R129, R130) -/

/-- A trigger in the conformity it was armed with does nothing. -/
theorem Part.evaluate_idle {s : Part} {j : Trigger}
    (h : (s.trigger j).conforms s.pedal.filtered = s.pedal.armed[j]) : s.evaluate j = s := by
  unfold Part.evaluate
  dsimp only
  rw [h]
  cases s.pedal.armed[j] <;> rfl

/-- A trigger armed and out of conformity fires. -/
theorem Part.evaluate_fires {s : Part} {i : Trigger} (harmed : s.pedal.armed[i] = true)
    (hfits : (s.trigger i).conforms s.pedal.filtered = false) : s.evaluate i = (s.setArmed i false).deliver i := by
  unfold Part.evaluate
  dsimp only
  rw [harmed, hfits]

/-- A trigger not armed and in conformity is armed, and ends what it holds. -/
theorem Part.evaluate_rearms {s : Part} {i : Trigger} (harmed : s.pedal.armed[i] = false)
    (hfits : (s.trigger i).conforms s.pedal.filtered = true) :
    s.evaluate i = (s.setArmed i true).endHold i (s.trigger i) := by
  unfold Part.evaluate
  dsimp only
  rw [harmed, hfits]

theorem Part.foldl_evaluate_idle {s : Part} {js : List Trigger} (h : ∀ j ∈ js, s.evaluate j = s) :
    js.foldl Part.evaluate s = s := by
  induction js with
  | nil => rfl
  | cons j js ih =>
    rw [List.foldl_cons, h j (List.mem_cons_self ..)]
    exact ih fun k hk => h k (List.mem_cons_of_mem _ hk)

/-- A sample after the first evaluates the triggers on the filtered lines. -/
theorem Part.sample_eq {s : Part} (levels : BitVec 8) (hstarting : s.starting = false)
    (hlast : s.pedal.lastSample ≠ none) : s.sample levels = allTriggers.foldl Part.evaluate (s.sampled levels) := by
  obtain ⟨t, ht⟩ := Option.ne_none_iff_exists'.mp hlast
  unfold Part.sample
  rw [hstarting, ht]
  rfl

theorem exec_pedalSample (levels : BitVec 8) (s : State) :
    exec (.pedalSample levels) s = .next (s.becomes (s.part.sample levels)) := rfl

theorem Part.MovesAlone.fires {s : Part} {levels : BitVec 8} {i : Trigger} (h : s.MovesAlone levels i true false) :
    (s.sampled levels).evaluate i = ((s.sampled levels).setArmed i false).deliver i := by
  obtain ⟨-, -, harmed, hfits, -⟩ := h
  exact Part.evaluate_fires harmed hfits

theorem Part.MovesAlone.rearms {s : Part} {levels : BitVec 8} {i : Trigger} (h : s.MovesAlone levels i false true) :
    (s.sampled levels).evaluate i = ((s.sampled levels).setArmed i true).endHold i (s.trigger i) := by
  obtain ⟨-, -, harmed, hfits, -⟩ := h
  exact Part.evaluate_rearms harmed hfits

/-- A sample in which one trigger moves does what that trigger does, where this leaves what the others read (R130). -/
theorem Part.MovesAlone.sample {s t : Part} {levels : BitVec 8} {i : Trigger} {wasArmed fits isArmed : Bool}
    (h : s.MovesAlone levels i wasArmed fits) (ht : (s.sampled levels).evaluate i = t)
    (hpedals : t.tables.pedal = s.tables.pedal) (hfiltered : t.pedal.filtered = (s.sampled levels).pedal.filtered)
    (harmed : t.pedal.armed = upd s.pedal.armed i fun _ => isArmed) : s.sample levels = t := by
  obtain ⟨hstarting, hlast, -, -, hothers⟩ := h
  have hbefore (j : Trigger) (hj : j ≠ i) : (s.sampled levels).evaluate j = s.sampled levels :=
    Part.evaluate_idle (hothers j hj)
  have hafter (j : Trigger) (hj : j ≠ i) : t.evaluate j = t := by
    refine Part.evaluate_idle ?_
    rw [hfiltered, harmed, getElem_upd, if_neg (Ne.symm hj), ← hothers j hj, Part.trigger, hpedals]
    rfl
  obtain ⟨pre, post, hsplit⟩ := List.append_of_mem (mem_allTriggers i)
  have hnodup : (pre ++ i :: post).Nodup := hsplit ▸ (by decide : allTriggers.Nodup)
  obtain ⟨hpre, hpost⟩ := not_or.mp (mt List.mem_append.mpr (not_mem_of_nodup_middle hnodup))
  rw [Part.sample_eq levels hstarting hlast, hsplit, List.foldl_append, List.foldl_cons,
    Part.foldl_evaluate_idle fun j hj => hbefore j fun e => hpre (e ▸ hj), ht,
    Part.foldl_evaluate_idle fun j hj => hafter j fun e => hpost (e ▸ hj)]

/-! ### SUSTAIN triggers (R131, R133) -/

/-- A hold that begins lifts nothing (R34). -/
theorem Part.sustainHold_eq (s : Part) (i : Trigger) (q : Port) :
    s.sustainHold i q = { s with notes := { s.notes with
      holds := upd s.notes.holds i fun _ => some { port := q, disregarded := false } } } := by
  rw [Part.sustainHold, Part.changeSustain_eq]
  refine if_neg fun hlift => ?_
  have hholds := ((Part.sustainDown_eq_false_iff _ q).mp hlift.2).2 i
  rw [getElem_upd, if_pos rfl] at hholds
  exact Bool.false_ne_true (hholds _ rfl rfl)

/-- A SUSTAIN trigger that fires begins a level action, and a hold of the port it names (R34, R131). -/
theorem Part.deliver_sustain_port {s : Part} {i : Trigger} {q : Port} (h : (s.trigger i).action = .sustain)
    (hport : portOf (s.trigger i).parameter = some q) :
    s.deliver i = { s.setHeld i true with notes := { s.notes with
      holds := upd s.notes.holds i fun _ => some { port := q, disregarded := false } } } := by
  simp only [Part.deliver, h, hport]
  exact (s.setHeld i true).sustainHold_eq i q

/-- A SUSTAIN trigger that names no port begins a level action alone. -/
theorem Part.deliver_sustain_noPort {s : Part} {i : Trigger} (h : (s.trigger i).action = .sustain)
    (hport : portOf (s.trigger i).parameter = none) : s.deliver i = s.setHeld i true := by
  simp only [Part.deliver, h, hport]

/-- A SUSTAIN trigger's level action ends (R34, R133). -/
theorem Part.endHold_sustain {s : Part} {i : Trigger} {t : TriggerRecord} (h : t.action = .sustain)
    (hheld : s.pedal.held[i] = true) : s.endHold i t = (s.setHeld i false).sustainRelease i := by
  simp only [Part.endHold, hheld, if_true, h]

/-- The end of a hold lifts where it alone kept its port's sustain state down (R34, R35). -/
theorem Part.sustainRelease_lifts_iff {s : Part} {i : Trigger} {h : SustainHold} (hh : s.notes.holds[i] = some h) :
    (s.sustainDown h.port = true ∧ ({ s with notes := { s.notes with
        holds := upd s.notes.holds i fun _ => none } } : Part).sustainDown h.port = false) ↔
      h.disregarded = false ∧ s.notes.sustainFrame[h.port] = false ∧
        ∀ j : Trigger, j ≠ i → ∀ x ∈ s.notes.holds[j], x.port = h.port → x.disregarded = true := by
  have hothers : ({ s with notes := { s.notes with holds := upd s.notes.holds i fun _ => none } } : Part).sustainDown
      h.port = false ↔ s.notes.sustainFrame[h.port] = false ∧
        ∀ j : Trigger, j ≠ i → ∀ x ∈ s.notes.holds[j], x.port = h.port → x.disregarded = true := by
    rw [Part.sustainDown_eq_false_iff]
    refine and_congr_right fun _ => forall_congr' fun j => ?_
    rw [getElem_upd]
    by_cases hj : i = j
    · simp [hj]
    · simp [hj, Ne.symm hj]
  rw [hothers, ← Bool.not_eq_false, Part.sustainDown_eq_false_iff]
  constructor
  · rintro ⟨hdown, hframe, hrest⟩
    refine ⟨?_, hframe, hrest⟩
    rw [← Bool.not_eq_true]
    intro hdisregarded
    refine hdown ⟨hframe, fun j x hx hport => ?_⟩
    by_cases hj : j = i
    · rw [hj, hh, Option.mem_some_iff] at hx
      exact hx ▸ hdisregarded
    · exact hrest j hj x hx hport
  · rintro ⟨hdisregarded, hframe, hrest⟩
    refine ⟨fun hup => ?_, hframe, hrest⟩
    have := hup.2 i h hh rfl
    simp [hdisregarded] at this

/-- A hold that ends, with the lift it makes (R34, R35). -/
theorem Part.sustainRelease_eq {s : Part} {i : Trigger} {h : SustainHold} (hh : s.notes.holds[i] = some h) :
    s.sustainRelease i = { s with notes := { s.notes with
      holds := upd s.notes.holds i fun _ => none
      entries := if h.disregarded = false ∧ s.notes.sustainFrame[h.port] = false ∧
          ∀ j : Trigger, j ≠ i → ∀ x ∈ s.notes.holds[j], x.port = h.port → x.disregarded = true
        then s.lifted h.port else s.notes.entries } } := by
  unfold Part.sustainRelease
  rw [hh]
  dsimp only
  rw [Part.changeSustain_eq]
  simp only [Part.sustainRelease_lifts_iff hh]
  split <;> rfl

/-- Settles O23: the sustain parts before and after each event, and the lift that their change makes. -/
theorem sustainLiftFollowsR35 : Obligations.SustainLiftFollowsR35 := by
  intro p value levels i s lifted
  refine ⟨?_, ?_, ?_⟩
  · intro hup hrole pedalPart
    rw [exec_sustain value hup hrole, Part.sustainEvent, Part.changeSustain_eq]
    simp only [Part.sustainEvent_lifts_iff, pedalPart]
    split <;> rfl
  · intro haction hmoves u
    refine ⟨fun hport => ?_, fun q hport => ?_⟩
    · have hnone : portOf (s.part.trigger i).parameter = none := dif_neg (by omega)
      have hsample := hmoves.sample (t := u)
        (hmoves.fires.trans (Part.deliver_sustain_noPort (s := (s.part.sampled levels).setArmed i false) haction hnone))
        rfl rfl rfl
      rw [exec_pedalSample, hsample]
    · have hsome : portOf (s.part.trigger i).parameter = some q := by rw [hport, portOf_val]
      have hsample := hmoves.sample
        (hmoves.fires.trans (Part.deliver_sustain_port (s := (s.part.sampled levels).setArmed i false) haction hsome))
        rfl rfl rfl
      rw [exec_pedalSample, hsample]
      rfl
  · intro haction hmoves hheld u
    have hrearms := hmoves.rearms
    rw [Part.endHold_sustain (s := (s.part.sampled levels).setArmed i true) haction hheld] at hrearms
    refine ⟨fun hhold => ?_, fun h hhold => ?_⟩
    · have hnone : u.sustainRelease i = u := by
        unfold Part.sustainRelease
        rw [show u.notes.holds[i] = none from hhold]
      have hsample := hmoves.sample (t := u) (hrearms.trans hnone) rfl rfl rfl
      rw [exec_pedalSample, hsample]
    · have hsample := hmoves.sample (hrearms.trans (Part.sustainRelease_eq (s := u) hhold)) rfl rfl rfl
      rw [exec_pedalSample, hsample]
      rfl

end Sys2Proof.Machine
end

section
/-!
PROOFS. A load of its own record by a CONSOLE port (R163, R183 to R185): a record that is not yet complete.
-/

namespace Sys2Proof.Machine

/-! ### A load whose record is not complete -/

/-- A load of the record of port 0, which has `words` so far (R183). -/
def loadOfPortZero (words : List Word) : Load :=
  { owner := 0, table := .port, next := 0, left := 1, words := words, written := 0 }

/-- Port 0, a CONSOLE in UP, holds the claim and has begun a load of its own record (R183). -/
def loadingOwnRecord : State :=
  { State.reset with
    part :=
      { Part.reset with
        tables := { Part.reset.tables with ports := Part.reset.tables.ports.set 0 (.console false) }
        links := upd Part.reset.links 0 fun l => { l with phase := .up }
        console := { Part.reset.console with owner := some 0, load := some (loadOfPortZero []) } } }

/-- What a write of an OFF record at port 0 would make of that part, the load's only record. -/
def ownRecordOff : Part := (loadingOwnRecord.part.setLoad none).writeRecord 0 (.port .off)

theorem loadingOwnRecord_asks : loadingOwnRecord.part.Asks 0 := ⟨rfl, rfl, by decide⟩

/-- One word 0 reads as an OFF record, the words that are missing being read as 0. -/
theorem recordOfWords_port_zero : recordOfWords .port [0] = .ok (.port .off) := rfl

/-- The write of OFF would take port 0 out of UP (R163). -/
theorem ownRecordOff_notUp : ownRecordOff.isUp 0 = false := rfl

theorem ownRecordOff_load : ownRecordOff.console.load = none := rfl

/-- The first of a record's eight words joins the gathered words: nothing is written, and 7 words are expected (R184). -/
theorem exec_loadData_firstWord : exec (.loadData 0 0 [0]) loadingOwnRecord =
    .next (loadingOwnRecord.becomes <| (loadingOwnRecord.part.setLoad (some (loadOfPortZero [0]))).plus 0
      (.reply 3 0 .done [word 0, word 7])) := rfl

/-- The load goes on, so the OFF record is not written. -/
theorem exec_loadData_firstWord_ne :
    exec (.loadData 0 0 [0]) loadingOwnRecord ≠ .next (loadingOwnRecord.becomes ownRecordOff) := by
  rw [exec_loadData_firstWord]
  intro h
  have hload : some (loadOfPortZero [0]) = ownRecordOff.console.load :=
    congrArg (fun t : State => t.part.console.load) (Host.Outcome.next.inj h)
  exact absurd (hload.trans ownRecordOff_load) (Option.some_ne_none _)

/-- Refutes O44: its clause for a port that leaves UP with the write does not ask for a complete record
(`size ≤ words.length`). Port 0 is loading its own record and sends the first word of eight, 0. That word alone would read
as an OFF record, whose write takes the port out of UP and leaves no load; the clause then says that the record is written
and no reply sent, where the model gathers the word and replies. -/
theorem not_loadWordsGatherAndWrite : ¬ Obligations.LoadWordsGatherAndWrite := by
  unfold Obligations.LoadWordsGatherAndWrite
  intro h
  obtain ⟨-, howner, -⟩ := h false 0 0 [0] loadingOwnRecord loadingOwnRecord_asks
  obtain ⟨-, -, -, hwords⟩ := howner rfl
  obtain ⟨-, -, hrecord⟩ := hwords rfl [0] rfl (loadOfPortZero []) rfl (by decide)
  obtain ⟨-, hleavesUp, -⟩ := hrecord (.port .off) recordOfWords_port_zero
  exact exec_loadData_firstWord_ne (hleavesUp ownRecordOff_notUp ownRecordOff_load)

end Sys2Proof.Machine
end
